-- ==== Sys2Proof/Word.lean ====
section
/-! DEFINITION. The word types of the block: bytes, 16-bit values and the 4-bit fields (00_scope.md R9, R10). -/

namespace Sys2Proof

/-- `u8` of R9: a wire byte, a frame-buffer cell, an address byte. -/
abbrev Byte := BitVec 8

/-- `u16` of R9: a register cell, a CRC value, a frame field. -/
abbrev U16 := BitVec 16

/-- A 4-bit value: an operation code (R111) or the strap pins (R35). -/
abbrev Nibble := BitVec 4

end Sys2Proof
end

