-- ==== Sys2Proof/Config.lean ====
section
/-! DEFINITION. What an implementation fixes (00_scope.md R6) and the free values. The bank sizes N, M and K are
not fields here: each is the length of its bank in State (log 4). -/

namespace Sys2Proof

/-- The answer of the persistent store (R84) or of the image pipeline (R88) to one call. -/
inductive PortAnswer where
  | ok
  | fail
  deriving DecidableEq, Repr, Inhabited

/-- The parameters the source leaves OPEN (R6). A machine holds one such record, fixed for a run (R45). -/
structure Config where
  /-- `BUF_CAP`, capacity of the frame buffer in bytes. -/
  bufCap : Nat
  /-- `CHAR_BITS`, bits on the wire per character. -/
  charBits : Nat
  /-- `F_TMR`, counts of the silence timer per second. -/
  fTmr : Nat
  /-- `BCAST_RESPOND`, whether a response to address 0 is transmitted. -/
  bcastRespond : Bool
  /-- `WDG_TIMEOUT_MS`, the bus-watchdog period. -/
  wdgTimeoutMs : Nat
  /-- `TICK_W`, width of the millisecond tick. -/
  tickW : Nat
  /-- `HOLD_NV_BASE`. -/
  holdNvBase : Nat
  /-- `HOLD_NV_STRIDE`. -/
  holdNvStride : Nat
  deriving DecidableEq, Repr

namespace Config

/-- DESIGN CHOICE (log 4), unsafe for the one run from reset: the spec's defaults of R6, and the example values of
95_test_vectors.md for `WDG_TIMEOUT_MS` and `HOLD_NV_BASE`. Statements hold for every configuration. -/
def example95 : Config where
  bufCap := 256
  charBits := 11
  fTmr := 1000000
  bcastRespond := true
  wdgTimeoutMs := 5000
  tickW := 32
  holdNvBase := 0
  holdNvStride := 2

/-- The largest `N` (R8): a read of the whole bank still fits its one-byte count. -/
def maxDiscrete : Nat := 2000

/-- The largest `M` and the largest `K` (R8). -/
def maxRegisters : Nat := 125

/-- `MIN_FRAME` (R6): the smallest frame that can be latched. -/
def minFrame : Nat := 5

/-- `OVL_BASE` (R6, R85): the first holding index of the upgrade overlay. -/
def ovlBase : Nat := 0x1000

/-- FREE VALUE (log 9): the answer of the persistent store to its `n`-th call, for a call beyond the answers that
State lists. R84: which of the two it returns "is not decided by the block". -/
opaque freeNvAnswer : Nat → PortAnswer

/-- FREE VALUE (log 9): the answer of the image pipeline to its `n`-th call, for a call beyond the answers that
State lists (R88). -/
opaque freeImgAnswer : Nat → PortAnswer

end Config
end Sys2Proof
end

