-- ==== Sys2Proof/Machine/Crc.lean ====
section
/-! DEFINITION. The two CRC functions of the CRC unit (40_crc.md R150 to R159). -/

namespace Sys2Proof.Machine

/-- `POLY_R` (R6): the feedback constant of the reflected CRC. -/
def polyR : U16 := 0xA001

/-- `INIT_R` (R6, R153): the initial value of the reflected CRC of a wire frame. -/
def initR : U16 := 0xFFFF

/-- One of the eight rounds of R151: bit 0 is tested before the right shift. -/
def crc16rRound (c : U16) : U16 :=
  if c.getLsbD 0 then (c >>> 1) ^^^ polyR else c >>> 1

/-- `n` rounds of the reflected CRC. -/
def crc16rRounds : Nat → U16 → U16
  | 0, c => c
  | n + 1, c => crc16rRounds n (crc16rRound c)

/-- `crc16r_step` (R151): the byte enters the low byte, then eight rounds. -/
def crc16rStep (c : U16) (b : Byte) : U16 :=
  crc16rRounds 8 (c ^^^ b.setWidth 16)

/-- `crc16r` (R152): the step folded over the bytes from first to last. -/
def crc16r (seed : U16) : List Byte → U16
  | [] => seed
  | b :: rest => crc16r (crc16rStep seed b) rest

/-- `mbcrc` (R153): the CRC of a wire frame. -/
def mbcrc (bytes : List Byte) : U16 := crc16r initR bytes

/-- One of the eight rounds of R157: bit 15 is tested before the left shift, the incoming bit enters at bit 0. -/
def crc16fRound (p : U16) (c : U16) (bit : Bool) : U16 :=
  let shifted := (c <<< 1) ||| (BitVec.ofBool bit).setWidth 16
  if c.getLsbD 15 then shifted ^^^ p else shifted

/-- The bits of a byte in the order they enter the forward CRC: bit 7 first (R157, R90). -/
def bitsMsbFirst (b : Byte) : List Bool :=
  [b.getLsbD 7, b.getLsbD 6, b.getLsbD 5, b.getLsbD 4, b.getLsbD 3, b.getLsbD 2, b.getLsbD 1, b.getLsbD 0]

/-- `crc16f_step` (R157). -/
def crc16fStep (c : U16) (b : Byte) (p : U16) : U16 :=
  (bitsMsbFirst b).foldl (crc16fRound p) c

/-- `crc16f` (R158): the step folded over the bytes from first to last. -/
def crc16f (seed : U16) (bytes : List Byte) (p : U16) : U16 :=
  match bytes with
  | [] => seed
  | b :: rest => crc16f (crc16fStep seed b p) rest p

/-- `crc16f_aug` (R159): the forward CRC with two zero bytes folded in after the data. -/
def crc16fAug (seed : U16) (bytes : List Byte) (p : U16) : U16 :=
  crc16f (crc16f seed bytes p) [0x00, 0x00] p

end Sys2Proof.Machine
end

