-- ==== Sys2Proof/Syntax.lean ====
section
/-! DEFINITION. The instructions: one constructor for each row of spec/opcode_table.json. The first sixteen are the
first level (30_encoding.md R112, R113), the others the request frames of the second level (R118, R130). -/

namespace Sys2Proof

/-- An operation of the block (first level) or a request frame with its fields parsed (second level). A request
carries its address byte, since the response copies it (R238), and no CRC, since the CRC is a function of the rest
(R115). A byte count is the length of its data (R129). -/
inductive Instr where
  /-- `CRCR.SEED s` (R154). -/
  | crcrSeed (seed : U16)
  /-- `CRCR.BYTE b` (R155). -/
  | crcrByte (b : Byte)
  /-- `CRCF.SEED s` (R160). -/
  | crcfSeed (seed : U16)
  /-- `CRCF.BYTE b` (R161). -/
  | crcfByte (b : Byte)
  /-- `CRCF.POLY p` (R162). -/
  | crcfPoly (p : U16)
  /-- `RX.BYTE b` (R187). -/
  | rxByte (b : Byte)
  /-- `TMR.TICK` (R188). -/
  | tmrTick
  /-- `MS.TICK` (R193). -/
  | msTick
  /-- `CFG.BAUD r` (R194); the rate is an unbounded natural (R32). -/
  | cfgBaud (rate : Nat)
  /-- `CFG.ADDR` (R196). -/
  | cfgAddr
  /-- `LOOP.ITER` (R246). -/
  | loopIter
  /-- Reserved operation code 0xB (R113). -/
  | reservedB
  /-- Reserved operation code 0xC (R113). -/
  | reservedC
  /-- Reserved operation code 0xD (R113). -/
  | reservedD
  /-- Reserved operation code 0xE (R113). -/
  | reservedE
  /-- Reserved operation code 0xF (R113). -/
  | reservedF
  /-- Read Discrete Inputs, 0x02 (R261). -/
  | rdi (addr : Byte) (start qty : U16)
  /-- Read Input Registers, 0x04 (R262). -/
  | rir (addr : Byte) (start qty : U16)
  /-- Read Holding Registers, 0x03 (R263). -/
  | rhr (addr : Byte) (start qty : U16)
  /-- Write Single Holding Register, 0x06 (R280). -/
  | wsr (addr : Byte) (reg val : U16)
  /-- Write Multiple Holding Registers, 0x10, normal arm (R282). -/
  | wmr (addr : Byte) (start qty : U16) (data : List Byte)
  /-- Read/Write Multiple Registers, 0x17 (R286). -/
  | rwm (addr : Byte) (rstart rqty wstart wqty : U16) (wdata : List Byte)
  /-- Mask Write Register, 0x16 (R288). -/
  | mwr (addr : Byte) (ref andMask orMask : U16)
  /-- Overlay arm of 0x10 (R284). -/
  | wmrOvl (addr : Byte) (start qty : U16) (data : List Byte)
  /-- A frame whose function byte is none of the seven (R130). -/
  | illegal (addr fc : Byte) (payload : List Byte)
  deriving DecidableEq, Repr

namespace Instr

/-- A request frame of the second level (R118, R130). -/
def isRequest : Instr → Bool
  | .crcrSeed _ => false
  | .crcrByte _ => false
  | .crcfSeed _ => false
  | .crcfByte _ => false
  | .crcfPoly _ => false
  | .rxByte _ => false
  | .tmrTick => false
  | .msTick => false
  | .cfgBaud _ => false
  | .cfgAddr => false
  | .loopIter => false
  | .reservedB => false
  | .reservedC => false
  | .reservedD => false
  | .reservedE => false
  | .reservedF => false
  | .rdi _ _ _ => true
  | .rir _ _ _ => true
  | .rhr _ _ _ => true
  | .wsr _ _ _ => true
  | .wmr _ _ _ _ => true
  | .rwm _ _ _ _ _ _ => true
  | .mwr _ _ _ _ => true
  | .wmrOvl _ _ _ _ => true
  | .illegal _ _ _ => true

end Instr
end Sys2Proof
end

