-- ==== Sys2Proof/WellFormed.lean ====
section
/-! DEFINITION. Which terms of Instr an encoding of the spec stands for (30_encoding.md R112, R119 to R123, R130). -/

namespace Sys2Proof

/-- The seven function codes of R118. -/
def supportedFunctions : List Byte := [0x02, 0x03, 0x04, 0x06, 0x10, 0x16, 0x17]

/-- Byte 1 of a frame names one of the seven functions (R118, R227). -/
def isSupported (fc : Byte) : Bool := supportedFunctions.contains fc

/-- Every check on an instruction's fields that its types do not make: a rate of at least 1 (R112), data no longer
than its one-byte count says (R121, R122), the arm of 0x10 by the start index (R282, R284), and for the illegal
class an unsupported function byte and a payload of at least one byte (R114, R130). -/
def Instr.wf : Instr → Bool
  | .crcrSeed _ => true
  | .crcrByte _ => true
  | .crcfSeed _ => true
  | .crcfByte _ => true
  | .crcfPoly _ => true
  | .rxByte _ => true
  | .tmrTick => true
  | .msTick => true
  | .cfgBaud rate => decide (1 ≤ rate)
  | .cfgAddr => true
  | .loopIter => true
  | .reservedB => true
  | .reservedC => true
  | .reservedD => true
  | .reservedE => true
  | .reservedF => true
  | .rdi _ _ _ => true
  | .rir _ _ _ => true
  | .rhr _ _ _ => true
  | .wsr _ _ _ => true
  | .wmr _ start _ data => decide (start.toNat < Config.ovlBase) && decide (data.length ≤ 255)
  | .rwm _ _ _ _ _ wdata => decide (wdata.length ≤ 255)
  | .mwr _ _ _ _ => true
  | .wmrOvl _ start _ data => decide (Config.ovlBase ≤ start.toNat) && decide (data.length ≤ 255)
  | .illegal _ fc payload => !isSupported fc && decide (1 ≤ payload.length)

end Sys2Proof
end

