-- ==== Sys2Proof/Decode.lean ====
section
/-! DEFINITION. Decoding and encoding, both levels: operation words (30_encoding.md R111 to R113) and request frames
(R114 to R130). -/

namespace Sys2Proof

/-! ### Bytes and fields -/

/-- `lo8` (R10). -/
def lo8 (v : U16) : Byte := v.setWidth 8

/-- `hi8` (R10). -/
def hi8 (v : U16) : Byte := (v >>> 8).setWidth 8

/-- `be16(h, l) = 256*h + l` (R10): the first byte is the most significant. -/
def be16 (h l : Byte) : U16 := h ++ l

/-- A 16-bit field of a frame, big-endian (R90, R128). -/
def be16Bytes (v : U16) : List Byte := [hi8 v, lo8 v]

/-- Byte `i` of a frame. -/
def byteAt (frame : List Byte) (i : Nat) : Byte := frame.getD i 0

/-- The field at bytes `i..i+1` of a frame (R128). -/
def fieldAt (frame : List Byte) (i : Nat) : U16 := be16 (byteAt frame i) (byteAt frame (i + 1))

/-- The `n` bytes of a frame from byte `i` on. -/
def bytesAt (frame : List Byte) (i n : Nat) : List Byte := (frame.drop i).take n

/-- A frame: a body followed by its CRC, low byte first (R115, R238). -/
def withCrc (body : List Byte) : List Byte :=
  body ++ [lo8 (Machine.mbcrc body), hi8 (Machine.mbcrc body)]

/-! ### Codes -/

/-- An operation word (R111): the 4-bit operation code and the operand, 0 where the operation has none.
DESIGN CHOICE (log 1), safe: the spec gives the code's bits `op[3:0]` and the operand's range, no place for it. -/
structure OpWord where
  op : Nibble
  operand : Nat
  deriving DecidableEq, Repr

/-- The two kinds of code: an operation word of the first level, a frame of the second. -/
inductive Code where
  | operation (w : OpWord)
  | frame (bytes : List Byte)
  deriving DecidableEq, Repr

/-- Why a code has no instruction. -/
inductive Reject where
  /-- The operand does not fit the operation's operand (R112: u8 or u16). -/
  | operandTooWide
  /-- The operation has no operand (R112) and the word carries one. -/
  | strayOperand
  /-- Fewer than 5 bytes: never latched, never decoded (R114, R130). -/
  | frameTooShort
  /-- A supported function in a frame of another length than its format's (R129, R228): dropped. -/
  | malformedLength
  deriving DecidableEq, Repr

/-! ### First level -/

/-- An operand of `n` bits, or the rejection by name. -/
def operandOf (n operand : Nat) (make : BitVec n → Instr) : Except Reject Instr :=
  if operand < 2 ^ n then .ok (make (BitVec.ofNat n operand)) else .error .operandTooWide

/-- An operation without operand. -/
def noOperand (operand : Nat) (i : Instr) : Except Reject Instr :=
  if operand = 0 then .ok i else .error .strayOperand

/-- The operation a word stands for (R112, R113). A reserved code is reserved whatever follows it (log 24). -/
def decodeOperation (w : OpWord) : Except Reject Instr :=
  match w.op.toNat with
  | 0x0 => operandOf 16 w.operand .crcrSeed
  | 0x1 => operandOf 8 w.operand .crcrByte
  | 0x2 => operandOf 16 w.operand .crcfSeed
  | 0x3 => operandOf 8 w.operand .crcfByte
  | 0x4 => operandOf 16 w.operand .crcfPoly
  | 0x5 => operandOf 8 w.operand .rxByte
  | 0x6 => noOperand w.operand .tmrTick
  | 0x7 => noOperand w.operand .msTick
  | 0x8 => .ok (.cfgBaud w.operand)
  | 0x9 => noOperand w.operand .cfgAddr
  | 0xA => noOperand w.operand .loopIter
  | 0xB => .ok .reservedB
  | 0xC => .ok .reservedC
  | 0xD => .ok .reservedD
  | 0xE => .ok .reservedE
  | _ => .ok .reservedF

/-! ### Second level -/

/-- `len_ok` (R228, R129): the length the function's format requires. -/
def lenOk (fc : Byte) (frame : List Byte) : Bool :=
  match fc.toNat with
  | 0x02 => frame.length == 8
  | 0x03 => frame.length == 8
  | 0x04 => frame.length == 8
  | 0x06 => frame.length == 8
  | 0x16 => frame.length == 10
  | 0x10 => decide (9 ≤ frame.length) && frame.length == 9 + (byteAt frame 6).toNat
  | 0x17 => decide (13 ≤ frame.length) && frame.length == 13 + (byteAt frame 10).toNat
  | _ => false

/-- The fields of a frame of a supported function, its length checked (R119 to R123, R128). Function 0x10 has two
arms by its start index (R282, R284). -/
def parseRequest (frame : List Byte) : Instr :=
  let addr := byteAt frame 0
  let fc := byteAt frame 1
  match fc.toNat with
  | 0x02 => .rdi addr (fieldAt frame 2) (fieldAt frame 4)
  | 0x03 => .rhr addr (fieldAt frame 2) (fieldAt frame 4)
  | 0x04 => .rir addr (fieldAt frame 2) (fieldAt frame 4)
  | 0x06 => .wsr addr (fieldAt frame 2) (fieldAt frame 4)
  | 0x16 => .mwr addr (fieldAt frame 2) (fieldAt frame 4) (fieldAt frame 6)
  | 0x10 =>
    if Config.ovlBase ≤ (fieldAt frame 2).toNat then
      .wmrOvl addr (fieldAt frame 2) (fieldAt frame 4) (bytesAt frame 7 (byteAt frame 6).toNat)
    else
      .wmr addr (fieldAt frame 2) (fieldAt frame 4) (bytesAt frame 7 (byteAt frame 6).toNat)
  | 0x17 =>
    .rwm addr (fieldAt frame 2) (fieldAt frame 4) (fieldAt frame 6) (fieldAt frame 8)
      (bytesAt frame 11 (byteAt frame 10).toNat)
  | _ => .illegal addr fc (bytesAt frame 2 (frame.length - 4))

/-- The request in a frame whose CRC has been checked (R227, R228): the function code first, so that an unsupported
one is never dropped (92_eei_decisions.md D35), then the length. The two CRC bytes are not looked at again. -/
def decodeRequest (frame : List Byte) : Except Reject Instr :=
  if frame.length < Config.minFrame then .error .frameTooShort
  else if !isSupported (byteAt frame 1) then .ok (parseRequest frame)
  else if !lenOk (byteAt frame 1) frame then .error .malformedLength
  else .ok (parseRequest frame)

/-- The instruction a code stands for, or the rejection by name. -/
def decode : Code → Except Reject Instr
  | .operation w => decodeOperation w
  | .frame bytes => decodeRequest bytes

/-! ### Encoding -/

/-- The body of a read request (R119). -/
def bodyRD (addr fc : Byte) (start qty : U16) : List Byte :=
  [addr, fc] ++ be16Bytes start ++ be16Bytes qty

/-- The body of a write-multiple request (R121). -/
def bodyWM (addr : Byte) (start qty : U16) (data : List Byte) : List Byte :=
  [addr, 0x10] ++ be16Bytes start ++ be16Bytes qty ++ [BitVec.ofNat 8 data.length] ++ data

/-- The word or the frame of an instruction (R112, R118 to R123). -/
def encode : Instr → Code
  | .crcrSeed seed => .operation ⟨0x0, seed.toNat⟩
  | .crcrByte b => .operation ⟨0x1, b.toNat⟩
  | .crcfSeed seed => .operation ⟨0x2, seed.toNat⟩
  | .crcfByte b => .operation ⟨0x3, b.toNat⟩
  | .crcfPoly p => .operation ⟨0x4, p.toNat⟩
  | .rxByte b => .operation ⟨0x5, b.toNat⟩
  | .tmrTick => .operation ⟨0x6, 0⟩
  | .msTick => .operation ⟨0x7, 0⟩
  | .cfgBaud rate => .operation ⟨0x8, rate⟩
  | .cfgAddr => .operation ⟨0x9, 0⟩
  | .loopIter => .operation ⟨0xA, 0⟩
  | .reservedB => .operation ⟨0xB, 0⟩
  | .reservedC => .operation ⟨0xC, 0⟩
  | .reservedD => .operation ⟨0xD, 0⟩
  | .reservedE => .operation ⟨0xE, 0⟩
  | .reservedF => .operation ⟨0xF, 0⟩
  | .rdi addr start qty => .frame (withCrc (bodyRD addr 0x02 start qty))
  | .rir addr start qty => .frame (withCrc (bodyRD addr 0x04 start qty))
  | .rhr addr start qty => .frame (withCrc (bodyRD addr 0x03 start qty))
  | .wsr addr reg val => .frame (withCrc ([addr, 0x06] ++ be16Bytes reg ++ be16Bytes val))
  | .wmr addr start qty data => .frame (withCrc (bodyWM addr start qty data))
  | .rwm addr rstart rqty wstart wqty wdata =>
    .frame (withCrc ([addr, 0x17] ++ be16Bytes rstart ++ be16Bytes rqty ++ be16Bytes wstart ++ be16Bytes wqty
      ++ [BitVec.ofNat 8 wdata.length] ++ wdata))
  | .mwr addr ref andMask orMask =>
    .frame (withCrc ([addr, 0x16] ++ be16Bytes ref ++ be16Bytes andMask ++ be16Bytes orMask))
  | .wmrOvl addr start qty data => .frame (withCrc (bodyWM addr start qty data))
  | .illegal addr fc payload => .frame (withCrc ([addr, fc] ++ payload))

/-- Byte 0 of a request frame (R114, R116); 0 for an operation of the first level, which has no frame. -/
def requestAddr : Instr → Byte
  | .crcrSeed _ => 0
  | .crcrByte _ => 0
  | .crcfSeed _ => 0
  | .crcfByte _ => 0
  | .crcfPoly _ => 0
  | .rxByte _ => 0
  | .tmrTick => 0
  | .msTick => 0
  | .cfgBaud _ => 0
  | .cfgAddr => 0
  | .loopIter => 0
  | .reservedB => 0
  | .reservedC => 0
  | .reservedD => 0
  | .reservedE => 0
  | .reservedF => 0
  | .rdi addr _ _ => addr
  | .rir addr _ _ => addr
  | .rhr addr _ _ => addr
  | .wsr addr _ _ => addr
  | .wmr addr _ _ _ => addr
  | .rwm addr _ _ _ _ _ => addr
  | .mwr addr _ _ _ => addr
  | .wmrOvl addr _ _ _ => addr
  | .illegal addr _ _ => addr

/-- Byte 1 of a request frame (R117, R118); 0 for an operation of the first level, which has no frame. -/
def requestFunction : Instr → Byte
  | .crcrSeed _ => 0
  | .crcrByte _ => 0
  | .crcfSeed _ => 0
  | .crcfByte _ => 0
  | .crcfPoly _ => 0
  | .rxByte _ => 0
  | .tmrTick => 0
  | .msTick => 0
  | .cfgBaud _ => 0
  | .cfgAddr => 0
  | .loopIter => 0
  | .reservedB => 0
  | .reservedC => 0
  | .reservedD => 0
  | .reservedE => 0
  | .reservedF => 0
  | .rdi _ _ _ => 0x02
  | .rir _ _ _ => 0x04
  | .rhr _ _ _ => 0x03
  | .wsr _ _ _ => 0x06
  | .wmr _ _ _ _ => 0x10
  | .rwm _ _ _ _ _ _ => 0x17
  | .mwr _ _ _ _ => 0x16
  | .wmrOvl _ _ _ _ => 0x10
  | .illegal _ fc _ => fc

/-! ### The table's words -/

/-- How many payload bytes the shortest frame of a function has (R119 to R123, R129 with a byte count of 0; R114
for an unsupported one). -/
def shortestPayload (fc : Byte) : Nat :=
  match fc.toNat with
  | 0x02 => 4
  | 0x03 => 4
  | 0x04 => 4
  | 0x06 => 4
  | 0x16 => 6
  | 0x10 => 5
  | 0x17 => 9
  | _ => 1

/-- The frame whose function byte is `fc` and whose every other byte before the CRC is 0. -/
def zeroFrame (fc : Byte) : List Byte :=
  withCrc ([0x00, fc] ++ List.replicate (shortestPayload fc) 0x00)

/-- The code a word of spec/opcode_table.json stands for. The table numbers two things from bit 0: the operation code
of the first level (4 bits) and the function byte of the second (8 bits). DESIGN CHOICE (log 2): a word below 16 is an
operation word, any other byte a function byte. -/
def codeOfTableWord (w : Nat) : Option Code :=
  if w < 16 then some (.operation ⟨BitVec.ofNat 4 w, 0⟩)
  else if w < 256 then some (.frame (zeroFrame (BitVec.ofNat 8 w)))
  else none

/-- The instruction the decoder reads from an `nbits`-bit word of the opcode table (log 2); bits above are 0. -/
def decodeTableWord (nbits w : Nat) : Option Instr :=
  match codeOfTableWord (w % 2 ^ nbits) with
  | some c => (decode c).toOption
  | none => none

end Sys2Proof
end

