-- ==== Sys2Proof/Machine/State.lean ====
section
/-! DEFINITION. The state of the block (10_state.md R20), the reasons a step can stop, and the state after reset
(R49). -/

namespace Sys2Proof.Machine

/-- The frame buffer's contents (R24): cells with strictly rising addresses. An address that is not listed holds no
value (R49, R50; log 8). -/
abbrev Memory := List Host.Cell

/-- The exception codes (R127, R310). -/
inductive ExcCode where
  /-- 1, R312. -/
  | illegalFunction
  /-- 2, R313. -/
  | illegalAddress
  /-- 3, R314. -/
  | illegalData
  /-- 4, R315. -/
  | deviceFailure
  deriving DecidableEq, Repr

/-- One call of the persistence port (R84) or of the image port (R88) with the answer it got. -/
structure PortCall where
  off : Nat
  bytes : List Byte
  answer : PortAnswer
  deriving DecidableEq, Repr

/-- The state that is fixed by the launch (R49: "launch parameters: any value"). -/
structure Launch where
  addrBase : Byte
  strap : Nibble
  tickMs : Nat
  disc : List Bool
  inp : List U16
  hold : List U16
  upgInProgress : Bool
  deriving DecidableEq, Repr

/-- What comes to the block from outside, one entry an event: an operation (R12, R112), a collaborator's write
between operations (R43, R44, R79, 92_eei_decisions.md D37), or a system reset (R350). -/
inductive Input where
  /-- The next operation, as its word. -/
  | operation (w : OpWord)
  /-- A collaborator calls `set_discrete(i, b)` (R74, R79). -/
  | setDiscrete (i : Nat) (b : Bool)
  /-- A collaborator calls `set_input(i, v)` (R74, R79). -/
  | setInput (i : Nat) (v : U16)
  /-- A collaborator calls `set_holding(i, v)` (R43, R74, R82). -/
  | setHolding (i : Nat) (v : U16)
  /-- The upgrade state machine enters or leaves InProgress (R44). -/
  | setUpgInProgress (b : Bool)
  /-- The persisted address base changes (R34). -/
  | setAddrBase (b : Byte)
  /-- The strap pins change (R35). -/
  | setStrap (x : Nibble)
  /-- A system reset (R350, R351); the banks are launch parameters again. -/
  | systemReset (l : Launch)
  deriving DecidableEq, Repr

/-- The registers that hold no value until an operation writes them and that an operation would read (R50, R353). -/
inductive RegName where
  | crcrAcc
  | crcfAcc
  | t35Reload
  | slaveAddr
  deriving DecidableEq, Repr

/-- Why the machine stops with a fault. Each one is safe: the model stops, in a state no run reaches. -/
inductive Fault where
  /-- Raised by TMR.TICK and LOOP.ITER on reading a frame-buffer cell that no RX.BYTE has written (R50; log 8). Safe. -/
  | unwrittenFrameByte (a : Nat)
  /-- Raised on reading a frame-buffer cell at or above `BUF_CAP`, which does not exist (R24, R71; log 8). Safe. -/
  | noSuchFrameByte (a : Nat)
  /-- Raised by LOOP.ITER when `RX_LEN` is 1 to 4, outside the range of R26 (log 14). Safe. -/
  | latchBelowMinimum
  /-- Raised by TMR.TICK when the armed timer's count is already 0 (R31 I4; log 14). Safe. -/
  | timerUnderflow
  /-- Raised by the dispatcher if a frame decoded to an operation of the first level, which the decoder never does
  (log 17). Safe. -/
  | operationInFrame
  deriving DecidableEq, Repr

/-- Why an operation has no meaning. Each one is safe: the model stops where the spec says a model refuses. -/
inductive Refusal where
  /-- Raised by exec's arm of an instruction without a meaning. Safe. -/
  | notModelled (mnemonic : String)
  /-- Raised by the reserved operation codes (R113). Safe. -/
  | reservedOperation (op : Nibble)
  /-- Raised by step for an operation word whose operand the operation does not have (R112; log 24). Safe. -/
  | undecodable (r : Reject)
  /-- Raised by CRCR.BYTE (R155), CRCF.BYTE (R161), RX.BYTE in state Idle (R183, R187) and the fire of TMR.TICK (R189):
  the spec's own refusal of a read that it gives no meaning (R50, R353, 93_implementation_defined.md U4). Safe. -/
  | unwrittenRegister (r : RegName)
  /-- Raised by CFG.BAUD with rate 0 (R32, 93_implementation_defined.md U6). Safe. -/
  | zeroBaudRate
  /-- Raised by step for a configuration outside R6 and R8 (93_implementation_defined.md U2; log 13, log 22), and by a
  system reset that would change a bank's size (log 12). Safe. -/
  | invalidConfiguration
  /-- Raised by an accessor called with an index outside its bank (R76 to R78, 93_implementation_defined.md U1); the
  dispatcher never does, a collaborator may. Safe. -/
  | bankIndexOutOfRange
  deriving DecidableEq, Repr

/-- The complete state of the block (R20), and after it the model's own fields. -/
structure State where
  /-- `CRCR_ACC` (R21). -/
  crcrAcc : U16
  /-- `CRCF_ACC` (R22). -/
  crcfAcc : U16
  /-- `CRCF_POLY` (R23). -/
  crcfPoly : U16
  /-- `FB` (R24). -/
  fb : Memory
  /-- `RX_CUR` (R25). -/
  rxCur : Nat
  /-- `RX_LEN` (R26). -/
  rxLen : Nat
  /-- `TMR_ARMED` (R27). -/
  tmrArmed : Bool
  /-- `TMR_CNT` (R27). -/
  tmrCnt : Nat
  /-- `T35_RELOAD` (R28). -/
  t35Reload : Nat
  /-- `BAUD` (R32). -/
  baud : Nat
  /-- `ADDR_BASE` (R34). -/
  addrBase : Byte
  /-- `STRAP` (R35). -/
  strap : Nibble
  /-- `SLAVE_ADDR` (R36). -/
  slaveAddr : Byte
  /-- `DE` (R38). -/
  de : Bool
  /-- `TX` (R39): the transmitted frames, oldest first. -/
  tx : List (List Byte)
  /-- `WDG_DEADLINE` (R40), below `2 ^ TICK_W` (log 21). -/
  wdgDeadline : Nat
  /-- `TICK_MS` (R41), below `2 ^ TICK_W` (log 21). -/
  tickMs : Nat
  /-- `DISC[0..N-1]` (R43); `N` is the length (log 4). -/
  disc : List Bool
  /-- `INP[0..M-1]` (R43); `M` is the length (log 4). -/
  inp : List U16
  /-- `HOLD[0..K-1]` (R43); `K` is the length (log 4). -/
  hold : List U16
  /-- `UPG_INPROGRESS` (R44). -/
  upgInProgress : Bool
  /-- Model's own: `CRCR_ACC` has been written since reset (R50; log 7). -/
  crcrAccWritten : Bool
  /-- Model's own: `CRCF_ACC` has been written since reset (R50; log 7). -/
  crcfAccWritten : Bool
  /-- Model's own: `BAUD` and `T35_RELOAD` have been written since reset (R50; log 7). -/
  baudWritten : Bool
  /-- Model's own: `SLAVE_ADDR` has been written since reset (R50; log 7). -/
  slaveAddrWritten : Bool
  /-- Model's own: the parameters of R6, fixed for a run (R45; log 4). -/
  cfg : Config
  /-- Model's own: what is still to come from outside, oldest first (log 3). -/
  inputs : List Input
  /-- Model's own: the answers to the coming `nv_write` calls, oldest first (R84; log 9). -/
  nvAnswers : List PortAnswer
  /-- Model's own: the answers to the coming `ImgWrite` calls, oldest first (R88; log 9). -/
  imgAnswers : List PortAnswer
  /-- Model's own: the trace of persistence writes (R84), oldest first. -/
  nvTrace : List PortCall
  /-- Model's own: the trace of image writes (R88), oldest first. -/
  imgTrace : List PortCall
  deriving DecidableEq, Repr

/-- The state after a reset (R49, R350) for a configuration and a launch. DESIGN CHOICE (log 6), unsafe: 0 in each
register the spec leaves unspecified; its written bit is clear, so that no operation reads it (log 7). -/
def State.launch (cfg : Config) (l : Launch) : State where
  crcrAcc := 0
  crcfAcc := 0
  crcfPoly := 0x1021
  fb := []
  rxCur := 0
  rxLen := 0
  tmrArmed := false
  tmrCnt := 0
  t35Reload := 0
  baud := 0
  addrBase := l.addrBase
  strap := l.strap
  slaveAddr := 0
  de := false
  tx := []
  wdgDeadline := 0
  tickMs := l.tickMs % 2 ^ cfg.tickW
  disc := l.disc
  inp := l.inp
  hold := l.hold
  upgInProgress := l.upgInProgress
  crcrAccWritten := false
  crcfAccWritten := false
  baudWritten := false
  slaveAddrWritten := false
  cfg := cfg
  inputs := []
  nvAnswers := []
  imgAnswers := []
  nvTrace := []
  imgTrace := []

/-- The launch of 95_test_vectors.md: `ADDR_BASE = 8`, `STRAP = 3`, 16, 8 and 16 bank cells of 0. DESIGN CHOICE
(log 5), unsafe for the one run from reset: the spec leaves these open. -/
def Launch.example95 : Launch where
  addrBase := 8
  strap := 3
  tickMs := 0
  disc := List.replicate 16 false
  inp := List.replicate 8 0
  hold := List.replicate 16 0
  upgInProgress := false

/-- The machine right after reset (R49). -/
def State.reset : State := State.launch Config.example95 Launch.example95

end Sys2Proof.Machine
end

