-- ==== Sys2Proof/Machine/Flags.lean ====
section
/-! DEFINITION. The one-bit conditions of the block (10_state.md R46): the latch, the configuration check, the frame's
CRC check, the read and write range checks, the watchdog's expiry. The validity gate is in Machine/Receiver.lean, since
it reads the frame buffer. -/

namespace Sys2Proof.Machine

/-- State FrameLatched (R30): the latch is not zero. -/
def frameLatched (s : State) : Bool := s.rxLen != 0

/-- The configuration is one the spec describes (R6, R8, U2); `F_TMR` of at least 1 is DEDUCED (log 13), safe. -/
def configOk (s : State) : Bool :=
  decide (1 ≤ s.disc.length) && decide (s.disc.length ≤ Config.maxDiscrete)
    && decide (1 ≤ s.inp.length) && decide (s.inp.length ≤ Config.maxRegisters)
    && decide (1 ≤ s.hold.length) && decide (s.hold.length ≤ Config.maxRegisters)
    && decide (Config.minFrame ≤ s.cfg.bufCap) && decide (1 ≤ s.cfg.fTmr)

/-- The CRC check of a frame (R115, R224): the last two bytes are the CRC of all before them, low byte first. -/
def crcOk (frame : List Byte) : Bool :=
  let c := mbcrc (frame.take (frame.length - 2))
  byteAt frame (frame.length - 2) == lo8 c && byteAt frame (frame.length - 1) == hi8 c

/-- `chk_read` (R232): the first test that fails decides; `none` is a pass. Naturals throughout, so nothing wraps
(R236). -/
def chkRead (start qty size : Nat) : Option ExcCode :=
  if size ≤ start then some .illegalAddress
  else if qty < 1 then some .illegalData
  else if size < start + qty then some .illegalAddress
  else none

/-- `chk_write` (R234): no test of the quantity against 1 (92_eei_decisions.md D40). -/
def chkWrite (start qty bc size : Nat) : Option ExcCode :=
  if size < start + qty then some .illegalAddress
  else if bc ≠ 2 * qty then some .illegalData
  else none

/-- The expiry test that the main loop applies to the deadline (R336), given for reference: acting on it is outside
the block (R5). -/
def watchdogExpired (s : State) : Bool :=
  let period := 2 ^ s.cfg.tickW
  decide ((s.tickMs + (period - s.wdgDeadline % period)) % period < 2 ^ (s.cfg.tickW - 1))

end Sys2Proof.Machine
end

