-- ==== Sys2Proof/Machine/Operands.lean ====
section
/-! DEFINITION. How operands become values and values become response bytes: bank cells, register bytes, the discrete
bitmap, the overlay offset, the silence period, exception bytes. -/

namespace Sys2Proof.Machine

/-- `MemRead(S:a, n)` on a bank (R76 to R78, R80): `n` single-cell reads in ascending order. `none` is an access
outside the bank, which has no meaning (U1). -/
def readCells {α : Type} (bank : List α) : Nat → Nat → Option (List α)
  | _, 0 => some []
  | a, n + 1 =>
    match bank[a]?, readCells bank (a + 1) n with
    | some v, some vs => some (v :: vs)
    | _, _ => none

/-- Register values as response bytes (R90, R124): two bytes each, most significant first. -/
def registerBytes : List U16 → List Byte
  | [] => []
  | v :: vs => hi8 v :: lo8 v :: registerBytes vs

/-- Request bytes as register values (R121, R122): `be16` of each pair. -/
def registerValues : List Byte → List U16
  | h :: l :: rest => be16 h l :: registerValues rest
  | _ => []

/-- The byte whose bit `b` is `bit b` (R10). -/
def packByte (bit : Nat → Bool) : Byte :=
  BitVec.ofBoolListLE [bit 0, bit 1, bit 2, bit 3, bit 4, bit 5, bit 6, bit 7]

/-- `ceil(n / d)` (R11). -/
def ceilDiv (n d : Nat) : Nat := (n + d - 1) / d

/-- The bitmap of a discrete-input response (R261, R264): input `i` is bit `i mod 8` of byte `i div 8`, and the bits
beyond the inputs are 0. -/
def packBits (bits : List Bool) : List Byte :=
  (List.range (ceilDiv bits.length 8)).map fun j => packByte fun b => bits.getD (8 * j + b) false

/-- The overlay translation (R86): the byte offset of holding index `a` in the staged image. -/
def overlayOffset (a : Nat) : Nat := (a - Config.ovlBase) * 2

/-- The silence period in timer counts (R194): 3.5 character times, at least 1.75 ms, each rounded up. -/
def t35Period (cfg : Config) (rate : Nat) : Nat :=
  max (ceilDiv (7 * cfg.charBits * cfg.fTmr) (2 * rate)) (ceilDiv (7 * cfg.fTmr) 4000)

/-- The exception byte (R127). -/
def ExcCode.byte : ExcCode → Byte
  | .illegalFunction => 1
  | .illegalAddress => 2
  | .illegalData => 3
  | .deviceFailure => 4

/-- `EXC_OVL_IDLE` (R6, 92_eei_decisions.md D20). -/
def excOvlIdle : ExcCode := .illegalAddress

/-- The masked value of 0x16 (R288), all 16-bit. -/
def maskedValue (cur andMask orMask : U16) : U16 := (cur &&& andMask) ||| (orMask &&& ~~~andMask)

/-- A byte count field (R124, R128). -/
def countByte (n : Nat) : Byte := BitVec.ofNat 8 n

end Sys2Proof.Machine
end

