-- ==== Sys2Proof/Machine/Ops.lean ====
section
/-! DEFINITION. The named operations on the state: the frame buffer, the ports, the holding bank, the address, the
watchdog, the response, taking an exception and returning from it. -/

namespace Sys2Proof.Machine

/-! ### The frame buffer -/

/-- The byte an address holds; `none` where it is not listed (log 8). -/
def Memory.read : Memory → Nat → Option Byte
  | [], _ => none
  | (a', b) :: rest, a => if a = a' then some b else Memory.read rest a

/-- A byte stored at an address, the cells kept in rising order. -/
def Memory.write : Memory → Nat → Byte → Memory
  | [], a, b => [(a, b)]
  | (a', b') :: rest, a, b =>
    if a < a' then (a, b) :: (a', b') :: rest
    else if a = a' then (a, b) :: rest
    else (a', b') :: Memory.write rest a b

/-- Every address of the list is above `a`, and the list rises strictly. -/
def Memory.risesAbove : Nat → Memory → Bool
  | _, [] => true
  | a, (a', _) :: rest => decide (a < a') && Memory.risesAbove a' rest

/-- The canonical form: addresses strictly rising. No entry can equal what an unlisted address reads as, which is no
value. -/
def Memory.wf : Memory → Bool
  | [] => true
  | (a, _) :: rest => Memory.risesAbove a rest

/-- One cell of the frame buffer (R71, R72). -/
def frameByte (s : State) (a : Nat) : Except Fault Byte :=
  if a < s.cfg.bufCap then
    match s.fb.read a with
    | some b => .ok b
    | none => .error (.unwrittenFrameByte a)
  else .error (.noSuchFrameByte a)

/-- `MemRead(FB:a, n)` (R72). -/
def frameBytes (s : State) : Nat → Nat → Except Fault (List Byte)
  | _, 0 => .ok []
  | a, n + 1 =>
    match frameByte s a with
    | .error f => .error f
    | .ok b =>
      match frameBytes s (a + 1) n with
      | .error f => .error f
      | .ok bs => .ok (b :: bs)

/-- `MemWrite(FB:a, 1, b)` (R73). -/
def storeFrameByte (a : Nat) (b : Byte) (s : State) : State := { s with fb := s.fb.write a b }

/-! ### The ports -/

/-- The answer to a call: the next one listed, else the free value of the call's number (R84, R88; log 9). -/
def nextAnswer (answers : List PortAnswer) (free : Nat → PortAnswer) (n : Nat) : PortAnswer :=
  match answers with
  | [] => free n
  | a :: _ => a

/-- `nv_write(off, bytes)` (R84): the call is recorded, and answered from outside. -/
def nvWrite (off : Nat) (bytes : List Byte) (s : State) : PortAnswer × State :=
  let answer := nextAnswer s.nvAnswers Config.freeNvAnswer s.nvTrace.length
  (answer, { s with nvAnswers := s.nvAnswers.tail, nvTrace := s.nvTrace ++ [⟨off, bytes, answer⟩] })

/-- `ImgWrite(off, bytes)` (R88): the call is recorded, and answered from outside. On a fail the image pipeline moves
the upgrade to Error by itself (R88, R315): DEDUCED (log 10), its change of `UPG_INPROGRESS` is the very next event,
since that input changes only between operations and the block never writes it (R44). -/
def imgWrite (off : Nat) (bytes : List Byte) (s : State) : PortAnswer × State :=
  let answer := nextAnswer s.imgAnswers Config.freeImgAnswer s.imgTrace.length
  (answer,
    { s with
      imgAnswers := s.imgAnswers.tail
      imgTrace := s.imgTrace ++ [⟨off, bytes, answer⟩]
      inputs := if answer = .fail then .setUpgInProgress false :: s.inputs else s.inputs })

/-! ### The holding bank -/

/-- The persistent-store offset of holding register `i` (R6, R84). -/
def holdOffset (cfg : Config) (i : Nat) : Nat := cfg.holdNvBase + cfg.holdNvStride * i

/-- The in-memory cell takes its value (R82). -/
def storeHolding (i : Nat) (v : U16) (s : State) : State := { s with hold := s.hold.set i v }

/-- `set_holding(i, v)` (R82): nothing for an equal value, else persisted before the cell is updated, and the cell
unchanged on a fail. `none` is an index outside the bank (U1). -/
def setHolding (i : Nat) (v : U16) (s : State) : Option (PortAnswer × State) :=
  match s.hold[i]? with
  | none => none
  | some old =>
    if old = v then some (.ok, s)
    else
      match nvWrite (holdOffset s.cfg i) (be16Bytes v) s with
      | (.fail, s') => some (.fail, s')
      | (.ok, s') => some (.ok, storeHolding i v s')

/-- `MemWrite(HOLD:a, n, vals)` (R83): ascending, stopping at the first fail. -/
def setHoldings : Nat → List U16 → State → Option (PortAnswer × State)
  | _, [], s => some (.ok, s)
  | a, v :: vs, s =>
    match setHolding a v s with
    | none => none
    | some (.fail, s') => some (.fail, s')
    | some (.ok, s') => setHoldings (a + 1) vs s'

/-! ### Address and watchdog -/

/-- The slave address a base and a strap give (R36, R196), modulo 256. -/
def resolvedAddr (s : State) : Byte := s.addrBase + s.strap.setWidth 8

/-- The resolution of the slave address (R36, R196, R221). -/
def resolveAddr (s : State) : State := { s with slaveAddr := resolvedAddr s, slaveAddrWritten := true }

/-- The bus-watchdog kick (R226). -/
def kickWatchdog (s : State) : State :=
  { s with wdgDeadline := (s.tickMs + s.cfg.wdgTimeoutMs) % 2 ^ s.cfg.tickW }

/-! ### Response, exception, release -/

/-- The transmission of one frame (R242): the driver-enable line is asserted before and deasserted after it. -/
def transmit (frame : List Byte) (s : State) : State :=
  let asserted := { s with de := true }
  let sent := { asserted with tx := asserted.tx ++ [frame] }
  { sent with de := false }

/-- Step 4 (R238, R240): the body with a fresh CRC is transmitted, unless the request was a broadcast and
`BCAST_RESPOND` is false. -/
def respond (addr : Byte) (body : List Byte) (s : State) : State :=
  if addr ≠ 0 ∨ s.cfg.bcastRespond = true then transmit (withCrc body) s else s

/-- Step 5, the return from a dispatch whatever its outcome (R244, R328): the latch and the cursor are cleared. -/
def release (s : State) : State := { s with rxCur := 0, rxLen := 0 }

/-- A normal outcome: respond, then release (R246). -/
def complete (addr : Byte) (body : List Byte) (s : State) : State := release (respond addr body s)

/-- The body of an exception response (R127, R316). -/
def excBody (addr fc : Byte) (code : ExcCode) : List Byte := [addr, fc ||| 0x80, code.byte]

/-- Taking an exception (R316, R326): nothing is saved, no mode changes, writes already made stay; the exception
response is sent like a normal one, and the latch is released. -/
def raiseExc (addr fc : Byte) (code : ExcCode) (s : State) : State :=
  complete addr (excBody addr fc code) s

end Sys2Proof.Machine
end

