-- ==== Sys2Proof/Machine/CrcUnit.lean ====
section
/-! DEFINITION. The CRC unit's operations (40_crc.md). -/

namespace Sys2Proof.Machine

/-- `CRCR.SEED s` (R154). -/
def execCrcrSeed (seed : U16) (s : State) : Host.Outcome State Fault Refusal :=
  .next { s with crcrAcc := seed, crcrAccWritten := true }

/-- `CRCR.BYTE b` (R155): refused, by R155 and R50, while the accumulator has never been written. -/
def execCrcrByte (b : Byte) (s : State) : Host.Outcome State Fault Refusal :=
  if s.crcrAccWritten then .next { s with crcrAcc := crc16rStep s.crcrAcc b }
  else .refused (.unwrittenRegister .crcrAcc)

/-- `CRCF.SEED s` (R160). -/
def execCrcfSeed (seed : U16) (s : State) : Host.Outcome State Fault Refusal :=
  .next { s with crcfAcc := seed, crcfAccWritten := true }

/-- `CRCF.BYTE b` (R161): the polynomial is the current one; refused, by R161 and R50, while the accumulator has never
been written. -/
def execCrcfByte (b : Byte) (s : State) : Host.Outcome State Fault Refusal :=
  if s.crcfAccWritten then .next { s with crcfAcc := crc16fStep s.crcfAcc b s.crcfPoly }
  else .refused (.unwrittenRegister .crcfAcc)

/-- `CRCF.POLY p` (R162). -/
def execCrcfPoly (p : U16) (s : State) : Host.Outcome State Fault Refusal :=
  .next { s with crcfPoly := p }

end Sys2Proof.Machine
end

