-- ==== Sys2Proof/Machine/ReadRequests.lean ====
section
/-! DEFINITION. The read requests (43_read_functions.md). A meaning runs from the function's validation to the release
of the latch; the length has been checked by the decoder (log 17). -/

namespace Sys2Proof.Machine

/-- The body of a register read response (R124). -/
def registersBody (addr fc : Byte) (vals : List U16) : List Byte :=
  [addr, fc, countByte (2 * vals.length)] ++ registerBytes vals

/-- The body of a discrete-input response (R124, R261). -/
def discretesBody (addr fc : Byte) (bits : List Bool) : List Byte :=
  [addr, fc, countByte (ceilDiv bits.length 8)] ++ packBits bits

/-- The read half of a register read (R262, R263, R286): the cells, then the response. -/
def answerRegisters (addr fc : Byte) (start qty : Nat) (bank : List U16) (s : State) :
    Host.Outcome State Fault Refusal :=
  match readCells bank start qty with
  | none => .refused .bankIndexOutOfRange
  | some vals => .next (complete addr (registersBody addr fc vals) s)

/-- A register read (R260, R262, R263): `chk_read`, then the cells. -/
def readRegisters (addr fc : Byte) (start qty : U16) (bank : List U16) (s : State) :
    Host.Outcome State Fault Refusal :=
  match chkRead start.toNat qty.toNat bank.length with
  | some code => .next (raiseExc addr fc code s)
  | none => answerRegisters addr fc start.toNat qty.toNat bank s

/-- Read Discrete Inputs, 0x02 (R261). -/
def execRdi (addr : Byte) (start qty : U16) (s : State) : Host.Outcome State Fault Refusal :=
  match chkRead start.toNat qty.toNat s.disc.length with
  | some code => .next (raiseExc addr 0x02 code s)
  | none =>
    match readCells s.disc start.toNat qty.toNat with
    | none => .refused .bankIndexOutOfRange
    | some bits => .next (complete addr (discretesBody addr 0x02 bits) s)

/-- Read Input Registers, 0x04 (R262). -/
def execRir (addr : Byte) (start qty : U16) (s : State) : Host.Outcome State Fault Refusal :=
  readRegisters addr 0x04 start qty s.inp s

/-- Read Holding Registers, 0x03 (R263). -/
def execRhr (addr : Byte) (start qty : U16) (s : State) : Host.Outcome State Fault Refusal :=
  readRegisters addr 0x03 start qty s.hold s

end Sys2Proof.Machine
end

