-- ==== Sys2Proof/Machine/WriteRequests.lean ====
section
/-! DEFINITION. The write requests (44_write_functions.md). A meaning runs from the function's validation to the
release of the latch; the length has been checked by the decoder (log 17). -/

namespace Sys2Proof.Machine

/-- The body of the response to 0x10, both arms (R126): bytes 0 to 5 of the request. -/
def writeMultipleBody (addr : Byte) (start qty : U16) : List Byte :=
  [addr, 0x10] ++ be16Bytes start ++ be16Bytes qty

/-- Write Single Holding Register, 0x06 (R280): the response is the request's bytes 0 to 5 (R125). -/
def execWsr (addr : Byte) (reg val : U16) (s : State) : Host.Outcome State Fault Refusal :=
  if s.hold.length ≤ reg.toNat then .next (raiseExc addr 0x06 .illegalAddress s)
  else
    match setHolding reg.toNat val s with
    | none => .refused .bankIndexOutOfRange
    | some (.fail, s') => .next (raiseExc addr 0x06 .deviceFailure s')
    | some (.ok, s') => .next (complete addr ([addr, 0x06] ++ be16Bytes reg ++ be16Bytes val) s')

/-- Write Multiple Holding Registers, 0x10, normal arm (R282). -/
def execWmr (addr : Byte) (start qty : U16) (data : List Byte) (s : State) : Host.Outcome State Fault Refusal :=
  match chkWrite start.toNat qty.toNat data.length s.hold.length with
  | some code => .next (raiseExc addr 0x10 code s)
  | none =>
    match setHoldings start.toNat (registerValues data) s with
    | none => .refused .bankIndexOutOfRange
    | some (.fail, s') => .next (raiseExc addr 0x10 .deviceFailure s')
    | some (.ok, s') => .next (complete addr (writeMultipleBody addr start qty) s')

/-- Read/Write Multiple Registers, 0x17 (R286): both ranges are validated, the read range first; then the write phase,
then the read phase, which sees the values just written. -/
def execRwm (addr : Byte) (rstart rqty wstart wqty : U16) (wdata : List Byte) (s : State) :
    Host.Outcome State Fault Refusal :=
  match chkRead rstart.toNat rqty.toNat s.hold.length with
  | some code => .next (raiseExc addr 0x17 code s)
  | none =>
    match chkWrite wstart.toNat wqty.toNat wdata.length s.hold.length with
    | some code => .next (raiseExc addr 0x17 code s)
    | none =>
      match setHoldings wstart.toNat (registerValues wdata) s with
      | none => .refused .bankIndexOutOfRange
      | some (.fail, s') => .next (raiseExc addr 0x17 .deviceFailure s')
      | some (.ok, s') => answerRegisters addr 0x17 rstart.toNat rqty.toNat s'.hold s'

/-- Mask Write Register, 0x16 (R288): the response is the request's bytes 0 to 7 (R125). -/
def execMwr (addr : Byte) (ref andMask orMask : U16) (s : State) : Host.Outcome State Fault Refusal :=
  if s.hold.length ≤ ref.toNat then .next (raiseExc addr 0x16 .illegalAddress s)
  else
    match s.hold[ref.toNat]? with
    | none => .refused .bankIndexOutOfRange
    | some cur =>
      match setHolding ref.toNat (maskedValue cur andMask orMask) s with
      | none => .refused .bankIndexOutOfRange
      | some (.fail, s') => .next (raiseExc addr 0x16 .deviceFailure s')
      | some (.ok, s') =>
        .next (complete addr ([addr, 0x16] ++ be16Bytes ref ++ be16Bytes andMask ++ be16Bytes orMask) s')

/-- The overlay arm of 0x10 (R284): the data bytes are forwarded in wire order, `qty` is echoed only. -/
def execWmrOvl (addr : Byte) (start qty : U16) (data : List Byte) (s : State) :
    Host.Outcome State Fault Refusal :=
  if s.upgInProgress then
    match imgWrite (overlayOffset start.toNat) data s with
    | (.fail, s') => .next (raiseExc addr 0x10 .deviceFailure s')
    | (.ok, s') => .next (complete addr (writeMultipleBody addr start qty) s')
  else .next (raiseExc addr 0x10 excOvlIdle s)

end Sys2Proof.Machine
end

