-- ==== Sys2Proof/Machine/Dispatcher.lean ====
section
/-! DEFINITION. The main-loop operation (42_dispatcher_common.md) and the illegal function class. -/

namespace Sys2Proof.Machine

/-- A request with an unsupported function byte (R130, R227, R312): exception 1, whatever its length and payload. -/
def execIllegal (addr fc : Byte) (_payload : List Byte) (s : State) : Host.Outcome State Fault Refusal :=
  .next (raiseExc addr fc .illegalFunction s)

/-- EXEC of R246, from the decoded request to the release. A frame never decodes to an operation of the first level
(log 17). -/
def execRequest (i : Instr) (s : State) : Host.Outcome State Fault Refusal :=
  match i with
  | .rdi addr start qty => execRdi addr start qty s
  | .rir addr start qty => execRir addr start qty s
  | .rhr addr start qty => execRhr addr start qty s
  | .wsr addr reg val => execWsr addr reg val s
  | .wmr addr start qty data => execWmr addr start qty data s
  | .rwm addr rstart rqty wstart wqty wdata => execRwm addr rstart rqty wstart wqty wdata s
  | .mwr addr ref andMask orMask => execMwr addr ref andMask orMask s
  | .wmrOvl addr start qty data => execWmrOvl addr start qty data s
  | .illegal addr fc payload => execIllegal addr fc payload s
  | .crcrSeed _ => .fault .operationInFrame
  | .crcrByte _ => .fault .operationInFrame
  | .crcfSeed _ => .fault .operationInFrame
  | .crcfByte _ => .fault .operationInFrame
  | .crcfPoly _ => .fault .operationInFrame
  | .rxByte _ => .fault .operationInFrame
  | .tmrTick => .fault .operationInFrame
  | .msTick => .fault .operationInFrame
  | .cfgBaud _ => .fault .operationInFrame
  | .cfgAddr => .fault .operationInFrame
  | .loopIter => .fault .operationInFrame
  | .reservedB => .fault .operationInFrame
  | .reservedC => .fault .operationInFrame
  | .reservedD => .fault .operationInFrame
  | .reservedE => .fault .operationInFrame
  | .reservedF => .fault .operationInFrame

/-- The dispatch of a frame (R222, R246): the CRC check, ending in a drop without a kick (R225); the kick (R226); the
decode, where a wrong length is a drop (R228); the request. -/
def dispatch (frame : List Byte) (s : State) : Host.Outcome State Fault Refusal :=
  if crcOk frame then
    match decodeRequest frame with
    | .error _ => .next (release (kickWatchdog s))
    | .ok i => execRequest i (kickWatchdog s)
  else .next (release s)

/-- `LOOP.ITER` (R246): the slave address is resolved (R221); a latched frame is dispatched, else nothing more
(R223). A latch value of 1 to 4, which no run reaches, is outside the latch's range (R26; log 14). -/
def execLoopIter (s : State) : Host.Outcome State Fault Refusal :=
  let resolved := resolveAddr s
  if frameLatched resolved then
    if resolved.rxLen < Config.minFrame then .fault .latchBelowMinimum
    else
      match frameBytes resolved 0 resolved.rxLen with
      | .error f => .fault f
      | .ok frame => dispatch frame resolved
  else .next resolved

end Sys2Proof.Machine
end

