-- ==== Sys2Proof/Machine/Receiver.lean ====
section
/-! DEFINITION. The frame receiver and the configuration operations (41_frame_receiver.md). -/

namespace Sys2Proof.Machine

/-- The byte appended while the buffer has room, dropped when it is full (R184, R185). -/
def appendByte (b : Byte) (s : State) : State :=
  if s.rxCur < s.cfg.bufCap then { storeFrameByte s.rxCur b s with rxCur := s.rxCur + 1 } else s

/-- The silence timer armed or re-armed (R186). -/
def armTimer (s : State) : State := { s with tmrCnt := s.t35Reload, tmrArmed := true }

/-- `RX.BYTE b` (R187): nothing while a frame is latched (R182); refused while `T35_RELOAD` has never been written
(R183). -/
def execRxByte (b : Byte) (s : State) : Host.Outcome State Fault Refusal :=
  if frameLatched s then .next s
  else if s.baudWritten then .next (armTimer (appendByte b s))
  else .refused (.unwrittenRegister .t35Reload)

/-- The first byte passes the gate (R189): the broadcast address or this node's. -/
def addressed (first slaveAddr : Byte) : Bool := first == 0 || first == slaveAddr

/-- FIRE with the gate true (R190): the frame is latched. -/
def latchFrame (s : State) : State := { s with rxLen := s.rxCur }

/-- FIRE with the gate false (R191): the buffer is reset. -/
def resetBuffer (s : State) : State := { s with rxCur := 0 }

/-- FIRE (R189 to R192). With a frame latched, which no run reaches, nothing changes (R192; log 16). Refused while
`SLAVE_ADDR` has never been resolved (R189, R353; log 16). -/
def fire (s : State) : Host.Outcome State Fault Refusal :=
  if frameLatched s then .next s
  else if s.slaveAddrWritten then
    if Config.minFrame ≤ s.rxCur then
      match frameByte s 0 with
      | .error f => .fault f
      | .ok first => .next (if addressed first s.slaveAddr then latchFrame s else resetBuffer s)
    else .next (resetBuffer s)
  else .refused (.unwrittenRegister .slaveAddr)

/-- `TMR.TICK` (R188): nothing while disarmed; at zero the timer is disarmed and fires. A running timer at count 0,
which no run reaches, has no count to give (log 14). -/
def execTmrTick (s : State) : Host.Outcome State Fault Refusal :=
  if s.tmrArmed then
    if s.tmrCnt = 0 then .fault .timerUnderflow
    else if s.tmrCnt = 1 then fire { s with tmrCnt := 0, tmrArmed := false }
    else .next { s with tmrCnt := s.tmrCnt - 1 }
  else .next s

/-- `MS.TICK` (R193). -/
def execMsTick (s : State) : Host.Outcome State Fault Refusal :=
  .next { s with tickMs := (s.tickMs + 1) % 2 ^ s.cfg.tickW }

/-- `CFG.BAUD r` (R194, R195): a running timer is not touched; rate 0 is refused (R32, U6). -/
def execCfgBaud (rate : Nat) (s : State) : Host.Outcome State Fault Refusal :=
  if rate = 0 then .refused .zeroBaudRate
  else .next { s with baud := rate, t35Reload := t35Period s.cfg rate, baudWritten := true }

/-- `CFG.ADDR` (R196). -/
def execCfgAddr (s : State) : Host.Outcome State Fault Refusal := .next (resolveAddr s)

end Sys2Proof.Machine
end

