-- ==== Sys2Proof/Machine/Reserved.lean ====
section
/-! DEFINITION. The reserved operation codes (30_encoding.md R113: "A model gives them no meaning and refuses them;
they are not no-ops"). -/

namespace Sys2Proof.Machine

/-- Operation code 0xB (R113). -/
def execReservedB (_s : State) : Host.Outcome State Fault Refusal := .refused (.reservedOperation 0xB)

/-- Operation code 0xC (R113). -/
def execReservedC (_s : State) : Host.Outcome State Fault Refusal := .refused (.reservedOperation 0xC)

/-- Operation code 0xD (R113). -/
def execReservedD (_s : State) : Host.Outcome State Fault Refusal := .refused (.reservedOperation 0xD)

/-- Operation code 0xE (R113). -/
def execReservedE (_s : State) : Host.Outcome State Fault Refusal := .refused (.reservedOperation 0xE)

/-- Operation code 0xF (R113). -/
def execReservedF (_s : State) : Host.Outcome State Fault Refusal := .refused (.reservedOperation 0xF)

end Sys2Proof.Machine
end

