-- ==== Sys2Proof/Machine/Dispatch.lean ====
section
/-! DEFINITION. The meaning of every instruction, one arm for each. -/

namespace Sys2Proof.Machine

def exec (i : Instr) (s : State) : Host.Outcome State Fault Refusal :=
  match i with
  -- 40_crc.md
  | .crcrSeed seed => Sys2Proof.Machine.execCrcrSeed seed s
  | .crcrByte b => Sys2Proof.Machine.execCrcrByte b s
  | .crcfSeed seed => Sys2Proof.Machine.execCrcfSeed seed s
  | .crcfByte b => Sys2Proof.Machine.execCrcfByte b s
  | .crcfPoly p => Sys2Proof.Machine.execCrcfPoly p s
  -- 41_frame_receiver.md
  | .rxByte b => Sys2Proof.Machine.execRxByte b s
  | .tmrTick => Sys2Proof.Machine.execTmrTick s
  | .msTick => Sys2Proof.Machine.execMsTick s
  | .cfgBaud rate => Sys2Proof.Machine.execCfgBaud rate s
  | .cfgAddr => Sys2Proof.Machine.execCfgAddr s
  -- 42_dispatcher_common.md
  | .loopIter => Sys2Proof.Machine.execLoopIter s
  -- 30_encoding.md R113
  | .reservedB => Sys2Proof.Machine.execReservedB s
  | .reservedC => Sys2Proof.Machine.execReservedC s
  | .reservedD => Sys2Proof.Machine.execReservedD s
  | .reservedE => Sys2Proof.Machine.execReservedE s
  | .reservedF => Sys2Proof.Machine.execReservedF s
  -- 43_read_functions.md
  | .rdi addr start qty => Sys2Proof.Machine.execRdi addr start qty s
  | .rir addr start qty => Sys2Proof.Machine.execRir addr start qty s
  | .rhr addr start qty => Sys2Proof.Machine.execRhr addr start qty s
  -- 44_write_functions.md
  | .wsr addr reg val => Sys2Proof.Machine.execWsr addr reg val s
  | .wmr addr start qty data => Sys2Proof.Machine.execWmr addr start qty data s
  | .rwm addr rstart rqty wstart wqty wdata => Sys2Proof.Machine.execRwm addr rstart rqty wstart wqty wdata s
  | .mwr addr ref andMask orMask => Sys2Proof.Machine.execMwr addr ref andMask orMask s
  | .wmrOvl addr start qty data => Sys2Proof.Machine.execWmrOvl addr start qty data s
  -- 30_encoding.md R130
  | .illegal addr fc payload => Sys2Proof.Machine.execIllegal addr fc payload s

end Sys2Proof.Machine
end

