-- ==== Sys2Proof/Machine/Environment.lean ====
section
/-! DEFINITION. What collaborators and a system reset do between operations (10_state.md R43, R44, 20_memory.md R79,
70_reset_and_hazards.md R350), and how the next event is fetched. -/

namespace Sys2Proof.Machine

/-- A system reset (R350, R351, R342): the block's state is that of R49, the banks are launch parameters. The events
and port answers still to come and the port traces are not the block's, and stay (log 12). -/
def systemReset (l : Launch) (s : State) : Host.Outcome State Fault Refusal :=
  if l.disc.length = s.disc.length ∧ l.inp.length = s.inp.length ∧ l.hold.length = s.hold.length then
    .next { State.launch s.cfg l with
      inputs := s.inputs
      nvAnswers := s.nvAnswers
      imgAnswers := s.imgAnswers
      nvTrace := s.nvTrace
      imgTrace := s.imgTrace }
  else .refused .invalidConfiguration

/-- An event that is no operation (R43, R44, R79; log 11). An accessor index outside its bank has no meaning (U1). -/
def applyEvent (e : Input) (s : State) : Host.Outcome State Fault Refusal :=
  match e with
  | .operation _ => .next s
  | .setDiscrete i b =>
    if i < s.disc.length then .next { s with disc := s.disc.set i b } else .refused .bankIndexOutOfRange
  | .setInput i v =>
    if i < s.inp.length then .next { s with inp := s.inp.set i v } else .refused .bankIndexOutOfRange
  | .setHolding i v =>
    match setHolding i v s with
    | none => .refused .bankIndexOutOfRange
    | some (_, s') => .next s'
  | .setUpgInProgress b => .next { s with upgInProgress := b }
  | .setAddrBase b => .next { s with addrBase := b }
  | .setStrap x => .next { s with strap := x }
  | .systemReset l => systemReset l s

/-- What the block does next. -/
inductive Fetched where
  /-- No event has occurred. -/
  | idle
  /-- An operation, and the state with it taken off the list. -/
  | run (i : Instr) (s : State)
  /-- An event that is no operation, and the state with it taken off the list. -/
  | event (e : Input) (s : State)
  /-- A word that is no operation. -/
  | reject (r : Reject)

/-- The next entry of `inputs`, taken off, an operation word decoded (R12, R112; log 3). -/
def fetch (s : State) : Fetched :=
  match s.inputs with
  | [] => .idle
  | .operation w :: rest =>
    match decodeOperation w with
    | .error r => .reject r
    | .ok i => .run i { s with inputs := rest }
  | e :: rest => .event e { s with inputs := rest }

/-- A frame placed in the buffer and latched, as the receiver leaves one (R190, R31). -/
def latchedFrame (frame : List Byte) (s : State) : State :=
  { s with
    fb := (List.range frame.length).zip frame
    rxCur := frame.length
    rxLen := frame.length
    tmrArmed := false }

/-- A code placed so that it is what runs next (log 26): an operation word at the head of `inputs`; a frame latched,
with LOOP.ITER at the head of `inputs`. -/
def placeCode (c : Code) (s : State) : State :=
  match c with
  | .operation w => { s with inputs := .operation w :: s.inputs }
  | .frame bytes => { latchedFrame bytes s with inputs := .operation ⟨0xA, 0⟩ :: s.inputs }

end Sys2Proof.Machine
end

