-- ==== Sys2Proof/Machine/Step.lean ====
section
/-! DEFINITION. One step: the next event from outside, an operation or a collaborator's (00_scope.md R12). -/

namespace Sys2Proof.Machine

/-- One step. A configuration outside R8 has no meaning (U2). With no event to come the block waits (log 3). -/
def step (s : State) : Host.Outcome State Fault Refusal :=
  if configOk s then
    match fetch s with
    | .idle => .next s
    | .run i s' => exec i s'
    | .event e s' => applyEvent e s'
    | .reject r => .refused (.undecodable r)
  else .refused .invalidConfiguration

/-- The state with a word of the opcode table placed to run next (log 2, log 26). -/
def State.withFetchWord (s : State) (nbits w : Nat) : State :=
  match codeOfTableWord (w % 2 ^ nbits) with
  | some c => placeCode c s
  | none => s

end Sys2Proof.Machine
end

