-- ==== Sys2Proof/Safety.lean ====
section
/-! DEFINITION. What a good state and a safe run are, and the words the statements use. -/

namespace Sys2Proof.Machine

/-- The receiver's invariant: I1 to I4 of R31, less the upper bound of I4, which a CFG.BAUD under a running timer
breaks (log 15), with what they rest on. -/
structure ReceiverInv (s : State) : Prop where
  /-- The frame buffer's cells are in canonical form. -/
  fb_wf : s.fb.wf = true
  /-- R24, R71: no cell at or above `BUF_CAP`. -/
  fb_bounded : ∀ a, (s.fb.read a).isSome = true → a < s.cfg.bufCap
  /-- R25: the cursor's range. -/
  cur_le : s.rxCur ≤ s.cfg.bufCap
  /-- Every cell below the cursor has been written. -/
  written : ∀ a, a < s.rxCur → (s.fb.read a).isSome = true
  /-- I1. -/
  latched_disarmed : s.rxLen ≠ 0 → s.tmrArmed = false
  /-- I2, the part about this state. -/
  latched_len : s.rxLen ≠ 0 → s.rxLen = s.rxCur ∧ Config.minFrame ≤ s.rxLen ∧ s.rxLen ≤ s.cfg.bufCap
  /-- I3. -/
  idle_empty : s.rxLen = 0 → s.tmrArmed = false → s.rxCur = 0
  /-- I4, without the upper bound of the count. -/
  armed_running : s.tmrArmed = true → 1 ≤ s.tmrCnt ∧ 1 ≤ s.rxCur
  /-- R194: a programmed period is at least one count. -/
  reload_pos : s.baudWritten = true → 1 ≤ s.t35Reload

/-- The outputs between operations: the driver-enable line is 0 (R38), and the two times are within `TICK_W` bits
(R40, R41). -/
structure OutputInv (s : State) : Prop where
  de_low : s.de = false
  tick_lt : s.tickMs < 2 ^ s.cfg.tickW
  deadline_lt : s.wdgDeadline < 2 ^ s.cfg.tickW

/-- What holds after reset and after every step. -/
structure Inv (s : State) : Prop where
  receiver : ReceiverInv s
  outputs : OutputInv s

/-- A step is safe if it does not end in a fault. A refusal is the spec's own (R50, R113). -/
def StepSafe (s : State) : Prop := ∀ f, step s ≠ .fault f

/-- The upper bound of I4 in R31 (log 15). -/
def CountWithinReload (s : State) : Prop := s.tmrArmed = true → s.tmrCnt ≤ s.t35Reload

/-- The frame is latched: its bytes are in `FB[0..RX_LEN-1]` and it has at least 5 of them (R114, R190). -/
def LatchedFrame (s : State) (frame : List Byte) : Prop :=
  s.rxLen = frame.length ∧ Config.minFrame ≤ frame.length ∧ frameBytes s 0 frame.length = .ok frame

/-- `n` steps, stopping at the first fault or refusal. -/
def runSteps : Nat → State → Host.Outcome State Fault Refusal
  | 0, s => .next s
  | n + 1, s =>
    match step s with
    | .next t => runSteps n t
    | .fault f => .fault f
    | .refused r => .refused r

/-- The operations of the first level as events to come (R112). -/
def operationInputs (is : List Instr) : List Input :=
  is.flatMap fun i =>
    match encode i with
    | .operation w => [.operation w]
    | .frame _ => []

/-- Two byte sequences of one length that differ in exactly one bit (R156 (d)). -/
def OneBitApart (x y : List Byte) : Prop :=
  ∃ pre b post k, k < 8 ∧ x = pre ++ b :: post ∧ y = pre ++ (b ^^^ BitVec.twoPow 8 k) :: post

/-- The cells `a, .., a+m-1` of the holding bank hold the first `m` values, every other cell is as before (R290). -/
def HoldsFirst (before after : State) (a : Nat) (vals : List U16) (m : Nat) : Prop :=
  ∀ i, after.hold[i]? = if a ≤ i ∧ i < a + m then vals[i - a]? else before.hold[i]?

/-- The persistence writes that writing the first `m` values at `a` makes: one for each cell whose value changes, in
ascending order, each answered `ok` (R290). -/
def persistCalls (before : State) (a : Nat) (vals : List U16) (m : Nat) : List PortCall :=
  ((List.range m).filter fun j => before.hold[a + j]? != vals[j]?).map fun j =>
    ⟨holdOffset before.cfg (a + j), be16Bytes (vals.getD j 0), .ok⟩

/-- What an outcome gives with a change made to its next state. -/
def onNext (f : State → State) : Host.Outcome State Fault Refusal → Host.Outcome State Fault Refusal
  | .next t => .next (f t)
  | .fault r => .fault r
  | .refused r => .refused r

end Sys2Proof.Machine
end

