-- ==== Sys2Proof/Certificates/Slice0/Obligations.lean ====
section
/-! DEFINITION. The statements for the provers. Each docstring names the rule of spec/ it formalises; what a rule does
not say and the model chose is named with its log entry. -/

open Sys2Proof Sys2Proof.Machine

/-! ### The CRC unit (40_crc.md) -/

/-- R154, R160, R162: the encoding and the whole effect of the two SEED operations and of CRCF.POLY. The written bits
are the model's own (log 7). -/
def Obligations.SeedsAndPolynomialWriteTheirRegister : Prop :=
  ∀ (s : State) (v : U16),
    (decodeOperation ⟨0x0, v.toNat⟩ = .ok (.crcrSeed v) ∧
      exec (.crcrSeed v) s = .next { s with crcrAcc := v, crcrAccWritten := true }) ∧
    (decodeOperation ⟨0x2, v.toNat⟩ = .ok (.crcfSeed v) ∧
      exec (.crcfSeed v) s = .next { s with crcfAcc := v, crcfAccWritten := true }) ∧
    (decodeOperation ⟨0x4, v.toNat⟩ = .ok (.crcfPoly v) ∧
      exec (.crcfPoly v) s = .next { s with crcfPoly := v })

/-- R155: the step, the refusal of an unwritten accumulator, and a SEED followed by a BYTE for each byte of a
sequence, which leaves `crc16r` of the sequence. -/
def Obligations.CrcrBytesAccumulateTheReflectedCrc : Prop :=
  (∀ (s : State) (b : Byte), decodeOperation ⟨0x1, b.toNat⟩ = .ok (.crcrByte b) ∧
    (s.crcrAccWritten = true → exec (.crcrByte b) s = .next { s with crcrAcc := crc16rStep s.crcrAcc b }) ∧
    (s.crcrAccWritten = false → exec (.crcrByte b) s = .refused (.unwrittenRegister .crcrAcc))) ∧
  ∀ (s : State) (seed : U16) (bytes : List Byte) (rest : List Input), configOk s = true →
    s.inputs = operationInputs (.crcrSeed seed :: bytes.map .crcrByte) ++ rest →
    runSteps (bytes.length + 1) s =
      .next { s with inputs := rest, crcrAcc := crc16r seed bytes, crcrAccWritten := true }

/-- R161: the step with the current polynomial, the refusal of an unwritten accumulator, and a SEED followed by a BYTE
for each byte of a sequence, which leaves `crc16f` of the sequence. -/
def Obligations.CrcfBytesAccumulateTheForwardCrc : Prop :=
  (∀ (s : State) (b : Byte), decodeOperation ⟨0x3, b.toNat⟩ = .ok (.crcfByte b) ∧
    (s.crcfAccWritten = true → exec (.crcfByte b) s = .next { s with crcfAcc := crc16fStep s.crcfAcc b s.crcfPoly }) ∧
    (s.crcfAccWritten = false → exec (.crcfByte b) s = .refused (.unwrittenRegister .crcfAcc))) ∧
  ∀ (s : State) (seed : U16) (bytes : List Byte) (rest : List Input), configOk s = true →
    s.inputs = operationInputs (.crcfSeed seed :: bytes.map .crcfByte) ++ rest →
    runSteps (bytes.length + 1) s =
      .next { s with inputs := rest, crcfAcc := crc16f seed bytes s.crcfPoly, crcfAccWritten := true }

/-- The worked values of R151, R152, R157, R158 and R159. -/
def Obligations.WorkedCrcValues : Prop :=
  crc16rStep 0xFFFF 0x0B = 0x87FE ∧
  crc16r 0xFFFF [0x0B, 0x03, 0x00, 0x00, 0x00, 0x02] = 0xA1C4 ∧
  crc16fStep 0x8000 0x01 0x1021 = 0x9189 ∧
  crc16f 0 [0x31, 0x32, 0x33, 0x34, 0x35, 0x36, 0x37, 0x38, 0x39] 0x1021 = 0xBEEF ∧
  crc16fAug 0 [0x31, 0x32, 0x33, 0x34, 0x35, 0x36, 0x37, 0x38, 0x39] 0x1021 = 0x31C3

/-- R156: (a) streaming, (b) residue, (c) the step is a bijection of the accumulator and an injection of the byte, (d)
two sequences that differ in exactly one bit have different CRCs, and a frame with one bit flipped, be it in its CRC
field, fails the comparison. -/
def Obligations.ReflectedCrcLaws : Prop :=
  (∀ (seed : U16) (x y : List Byte), crc16r (crc16r seed x) y = crc16r seed (x ++ y)) ∧
  (∀ (seed : U16) (x : List Byte), crc16r seed (x ++ [lo8 (crc16r seed x), hi8 (crc16r seed x)]) = 0) ∧
  (∀ b : Byte, Function.Bijective fun c => crc16rStep c b) ∧
  (∀ c : U16, Function.Injective fun b => crc16rStep c b) ∧
  (∀ x y : List Byte, OneBitApart x y → mbcrc x ≠ mbcrc y) ∧
  (∀ sent received : List Byte, 2 ≤ sent.length → crcOk sent = true → OneBitApart sent received →
    crcOk received = false)

/-- R163: (a) streaming, (b) residue, (c) linearity in the seed, (d) leading zero bytes with seed 0. The laws hold for
every polynomial. -/
def Obligations.ForwardCrcLaws : Prop :=
  (∀ (seed p : U16) (x y : List Byte), crc16f (crc16f seed x p) y p = crc16f seed (x ++ y) p) ∧
  (∀ (p : U16) (x : List Byte), crc16f 0 (x ++ [hi8 (crc16fAug 0 x p), lo8 (crc16fAug 0 x p)]) p = 0) ∧
  (∀ (s₁ s₂ p : U16) (x : List Byte),
    crc16f (s₁ ^^^ s₂) x p = crc16f s₁ x p ^^^ crc16f s₂ x p ^^^ crc16f 0 x p) ∧
  (∀ (n : Nat) (p : U16) (x : List Byte), crc16f 0 (List.replicate n 0 ++ x) p = crc16f 0 x p)

/-! ### The receiver (41_frame_receiver.md) -/

/-- R187, with R182 to R186: RX.BYTE complete. A byte received while a frame is latched changes nothing; in state Idle
it is appended and arms the timer, at a full buffer it only arms the timer, and before any CFG.BAUD it is refused. -/
def Obligations.ReceivedByteIsDiscardedOrAppended : Prop :=
  ∀ (s : State) (b : Byte), decodeOperation ⟨0x5, b.toNat⟩ = .ok (.rxByte b) ∧
    (s.rxLen ≠ 0 → exec (.rxByte b) s = .next s) ∧
    (s.rxLen = 0 → s.baudWritten = true → s.rxCur < s.cfg.bufCap → exec (.rxByte b) s =
      .next { s with fb := s.fb.write s.rxCur b, rxCur := s.rxCur + 1, tmrCnt := s.t35Reload, tmrArmed := true }) ∧
    (s.rxLen = 0 → s.baudWritten = true → s.cfg.bufCap ≤ s.rxCur → exec (.rxByte b) s =
      .next { s with tmrCnt := s.t35Reload, tmrArmed := true }) ∧
    (s.rxLen = 0 → s.baudWritten = false → exec (.rxByte b) s = .refused (.unwrittenRegister .t35Reload))

/-- R184 with R24: the byte goes to `FB[RX_CUR]` and no other cell changes, and the cells stay in canonical form. -/
def Obligations.ReceivedByteWritesOneFrameCell : Prop :=
  ∀ (s : State) (b : Byte), s.fb.wf = true → s.rxLen = 0 → s.baudWritten = true → s.rxCur < s.cfg.bufCap →
    ∃ t, exec (.rxByte b) s = .next t ∧ t.fb.wf = true ∧ t.fb.read s.rxCur = some b ∧
      ∀ a, a ≠ s.rxCur → t.fb.read a = s.fb.read a

/-- R188, the pseudocode's lines before FIRE: nothing while disarmed, one count less while the count stays above 0. -/
def Obligations.TimerTickCountsDown : Prop :=
  ∀ s : State, decodeOperation ⟨0x6, 0⟩ = .ok .tmrTick ∧
    (s.tmrArmed = false → exec .tmrTick s = .next s) ∧
    (s.tmrArmed = true → 1 < s.tmrCnt → exec .tmrTick s = .next { s with tmrCnt := s.tmrCnt - 1 })

/-- R189, R190, R191, R192: the tick that brings the count to 0 disarms the timer and evaluates the gate; with a frame
latched, which no run reaches, it changes nothing more. The order of the tests is the model's, DEDUCED (log 16): the
latch first, even with `SLAVE_ADDR` unresolved, then the refusal, whatever the length, then the gate. -/
def Obligations.TimerFireLatchesOrResets : Prop :=
  ∀ s : State, s.tmrArmed = true → s.tmrCnt = 1 →
    (s.rxLen ≠ 0 → exec .tmrTick s = .next { s with tmrArmed := false, tmrCnt := 0 }) ∧
    (s.rxLen = 0 → s.slaveAddrWritten = false → exec .tmrTick s = .refused (.unwrittenRegister .slaveAddr)) ∧
    (s.rxLen = 0 → s.slaveAddrWritten = true → s.rxCur < 5 → exec .tmrTick s =
      .next { s with tmrArmed := false, tmrCnt := 0, rxCur := 0 }) ∧
    ∀ first, s.rxLen = 0 → s.slaveAddrWritten = true → 5 ≤ s.rxCur → s.rxCur ≤ s.cfg.bufCap →
      s.fb.read 0 = some first →
      (first = 0 ∨ first = s.slaveAddr → exec .tmrTick s =
        .next { s with tmrArmed := false, tmrCnt := 0, rxLen := s.rxCur }) ∧
      (first ≠ 0 → first ≠ s.slaveAddr → exec .tmrTick s =
        .next { s with tmrArmed := false, tmrCnt := 0, rxCur := 0 })

/-- R188: with no other event between them, `n` ticks take `n` from the count, and the timer fires at exactly the
tick that the count it was armed with says. -/
def Obligations.TimerFiresAtTheReloadCount : Prop :=
  (∀ (s : State) (n : Nat) (rest : List Input), configOk s = true → s.tmrArmed = true → n < s.tmrCnt →
    s.inputs = operationInputs (List.replicate n .tmrTick) ++ rest →
    runSteps n s = .next { s with inputs := rest, tmrCnt := s.tmrCnt - n }) ∧
  ∀ (s : State) (rest : List Input), configOk s = true → s.tmrArmed = true → 1 ≤ s.tmrCnt →
    s.inputs = operationInputs (List.replicate s.tmrCnt .tmrTick) ++ rest →
    runSteps s.tmrCnt s = exec .tmrTick { s with inputs := rest, tmrCnt := 1 }

/-- R193: the millisecond tick. -/
def Obligations.MillisecondTickWraps : Prop :=
  ∀ s : State, decodeOperation ⟨0x7, 0⟩ = .ok .msTick ∧
    exec .msTick s = .next { s with tickMs := (s.tickMs + 1) % 2 ^ s.cfg.tickW }

/-- R194, R195: CFG.BAUD writes the rate and the period and does not touch the timer; rate 0 is refused. -/
def Obligations.BaudRateSetsThePeriod : Prop :=
  ∀ (s : State) (rate : Nat), decodeOperation ⟨0x8, rate⟩ = .ok (.cfgBaud rate) ∧
    (1 ≤ rate → exec (.cfgBaud rate) s = .next { s with
      baud := rate
      t35Reload := max ⌈(7 * s.cfg.charBits * s.cfg.fTmr : ℚ) / (2 * rate)⌉₊ ⌈(7 * s.cfg.fTmr : ℚ) / 4000⌉₊
      baudWritten := true }) ∧
    exec (.cfgBaud 0) s = .refused .zeroBaudRate

/-- R194: the period is the least number of counts that is neither shorter than 3.5 character times nor shorter than
1.75 ms. -/
def Obligations.SilencePeriodIsTheLeastAllowed : Prop :=
  ∀ (cfg : Config) (rate : Nat), 1 ≤ rate →
    7 * cfg.charBits * cfg.fTmr ≤ 2 * rate * t35Period cfg rate ∧ 7 * cfg.fTmr ≤ 4000 * t35Period cfg rate ∧
    ∀ n, 7 * cfg.charBits * cfg.fTmr ≤ 2 * rate * n → 7 * cfg.fTmr ≤ 4000 * n → t35Period cfg rate ≤ n

/-- R196, R36: CFG.ADDR resolves the slave address, modulo 256. -/
def Obligations.SlaveAddressIsBasePlusStrap : Prop :=
  ∀ s : State, decodeOperation ⟨0x9, 0⟩ = .ok .cfgAddr ∧
    exec .cfgAddr s = .next { s with
      slaveAddr := BitVec.ofNat 8 ((s.addrBase.toNat + s.strap.toNat) % 256), slaveAddrWritten := true }

/-- R26, R190, R189: the latch is set only by a fire of TMR.TICK, from 0 to `RX_CUR`, for a frame of at least 5 bytes
whose first byte is 0 or the slave address at that moment (the history part of R31, I2). -/
def Obligations.OnlyAnAddressedFrameIsLatched : Prop :=
  ∀ s t : State, Inv s → step s = .next t → s.rxLen = 0 → t.rxLen ≠ 0 →
    (∃ rest, s.inputs = .operation ⟨0x6, 0⟩ :: rest) ∧ t.rxLen = s.rxCur ∧ t.rxCur = s.rxCur ∧ 5 ≤ t.rxLen ∧
      ∃ first, t.fb.read 0 = some first ∧ (first = 0 ∨ first = s.slaveAddr)

/-- R98, R26, R30: a latched frame cannot change: it is left as it is by every step but the one that clears the latch,
which is LOOP.ITER or a system reset. -/
def Obligations.LatchedFrameStaysUntilReleased : Prop :=
  ∀ s t : State, Inv s → step s = .next t → s.rxLen ≠ 0 →
    (t.rxLen = s.rxLen ∧ t.rxCur = s.rxCur ∧ t.fb = s.fb ∧ t.tmrArmed = false) ∨
    (t.rxLen = 0 ∧ t.rxCur = 0 ∧
      ((∃ rest, s.inputs = .operation ⟨0xA, 0⟩ :: rest) ∨ ∃ l rest, s.inputs = .systemReset l :: rest))

/-! ### The main loop (42_dispatcher_common.md) -/

/-- R223, R221: with no frame latched LOOP.ITER resolves the address and does nothing else. -/
def Obligations.LoopIterationWithoutFrameOnlyResolvesTheAddress : Prop :=
  ∀ s : State, decodeOperation ⟨0xA, 0⟩ = .ok .loopIter ∧
    (s.rxLen = 0 → exec .loopIter s = .next { s with
      slaveAddr := BitVec.ofNat 8 ((s.addrBase.toNat + s.strap.toNat) % 256), slaveAddrWritten := true })

/-- R225: a frame whose CRC does not match is dropped: no kick, no response, no write to a bank; the latch is
released. -/
def Obligations.CrcMismatchIsDroppedSilently : Prop :=
  ∀ (s : State) (frame : List Byte), LatchedFrame s frame → crcOk frame = false →
    exec .loopIter s = .next { s with
      slaveAddr := BitVec.ofNat 8 ((s.addrBase.toNat + s.strap.toNat) % 256), slaveAddrWritten := true
      rxCur := 0, rxLen := 0 }

/-- R228: a CRC-valid frame of a supported function and of another length than its format's is dropped after the
watchdog kick. -/
def Obligations.WrongLengthIsDroppedAfterTheKick : Prop :=
  ∀ (s : State) (frame : List Byte), LatchedFrame s frame → crcOk frame = true →
    ((byteAt frame 1 = 0x02 ∨ byteAt frame 1 = 0x03 ∨ byteAt frame 1 = 0x04 ∨ byteAt frame 1 = 0x06) ∧
        frame.length ≠ 8 ∨
      byteAt frame 1 = 0x16 ∧ frame.length ≠ 10 ∨
      byteAt frame 1 = 0x10 ∧ ¬(9 ≤ frame.length ∧ frame.length = 9 + (byteAt frame 6).toNat) ∨
      byteAt frame 1 = 0x17 ∧ ¬(13 ≤ frame.length ∧ frame.length = 13 + (byteAt frame 10).toNat)) →
    exec .loopIter s = .next { s with
      slaveAddr := BitVec.ofNat 8 ((s.addrBase.toNat + s.strap.toNat) % 256), slaveAddrWritten := true
      wdgDeadline := (s.tickMs + s.cfg.wdgTimeoutMs) % 2 ^ s.cfg.tickW
      rxCur := 0, rxLen := 0 }

/-- R246: a latched CRC-valid frame that decodes to a request is run as that request, after the address resolution
and the watchdog kick. -/
def Obligations.LoopIterationRunsTheLatchedRequest : Prop :=
  ∀ (s : State) (frame : List Byte) (i : Instr), LatchedFrame s frame → crcOk frame = true →
    decodeRequest frame = .ok i → i.isRequest = true ∧ exec .loopIter s = exec i (kickWatchdog (resolveAddr s))

/-- R226: the deadline is reset by every frame that passes the CRC check, whatever comes of it, and by no other. -/
def Obligations.WatchdogIsKickedByEveryValidFrame : Prop :=
  ∀ s t : State, exec .loopIter s = .next t →
    (∀ frame, LatchedFrame s frame → t.wdgDeadline =
      if crcOk frame then (s.tickMs + s.cfg.wdgTimeoutMs) % 2 ^ s.cfg.tickW else s.wdgDeadline) ∧
    (s.rxLen = 0 → t.wdgDeadline = s.wdgDeadline)

/-- R336 with R226: right after a kick the watchdog has not expired, for a timeout of at most half the tick's range. -/
def Obligations.WatchdogHasNotExpiredAfterAKick : Prop :=
  ∀ (s t : State) (frame : List Byte), LatchedFrame s frame → crcOk frame = true → s.tickMs < 2 ^ s.cfg.tickW →
    1 ≤ s.cfg.tickW → 1 ≤ s.cfg.wdgTimeoutMs → s.cfg.wdgTimeoutMs ≤ 2 ^ (s.cfg.tickW - 1) →
    exec .loopIter s = .next t → watchdogExpired t = false

/-- R244, R328: a dispatch ends with the release whatever its outcome, and always completes (U1: validation comes
before every bank access). -/
def Obligations.EveryDispatchCompletesAndReleases : Prop :=
  ∀ (s : State) (frame : List Byte), LatchedFrame s frame →
    ∃ t, exec .loopIter s = .next t ∧ t.rxLen = 0 ∧ t.rxCur = 0

/-- R248: what one LOOP.ITER never changes. -/
def Obligations.LoopIterationFrame : Prop :=
  ∀ s t : State, exec .loopIter s = .next t →
    t.fb = s.fb ∧ t.disc = s.disc ∧ t.inp = s.inp ∧ t.hold.length = s.hold.length ∧
    t.tmrArmed = s.tmrArmed ∧ t.tmrCnt = s.tmrCnt ∧ t.t35Reload = s.t35Reload ∧ t.baud = s.baud ∧
    t.crcrAcc = s.crcrAcc ∧ t.crcfAcc = s.crcfAcc ∧ t.crcfPoly = s.crcfPoly ∧ t.tickMs = s.tickMs ∧
    t.addrBase = s.addrBase ∧ t.strap = s.strap ∧ t.upgInProgress = s.upgInProgress ∧ t.cfg = s.cfg ∧
    (s.de = false → t.de = false) ∧ (t.tx = s.tx ∨ ∃ r, t.tx = s.tx ++ [r])

/-- R21: a CRC-unit operation and a dispatch never disturb each other: LOOP.ITER does the same whatever the CRC unit
holds, and leaves it there. -/
def Obligations.DispatchIgnoresTheCrcUnit : Prop :=
  ∀ (s : State) (x y z : U16),
    exec .loopIter { s with crcrAcc := x, crcfAcc := y, crcfPoly := z } =
      onNext (fun t => { t with crcrAcc := x, crcfAcc := y, crcfPoly := z }) (exec .loopIter s)

/-- R238, R240, R242, R244: the response frame is the body with a fresh CRC, low byte first; it is transmitted unless
the address byte is 0 and `BCAST_RESPOND` is false; then the latch is released. -/
def Obligations.ResponseIsTransmittedAndTheLatchReleased : Prop :=
  ∀ (s : State) (addr : Byte) (body : List Byte),
    complete addr body s =
      if addr ≠ 0 ∨ s.cfg.bcastRespond = true then
        { s with
          tx := s.tx ++ [body ++ [lo8 (crc16r 0xFFFF body), hi8 (crc16r 0xFFFF body)]]
          de := false, rxCur := 0, rxLen := 0 }
      else { s with rxCur := 0, rxLen := 0 }

/-- R238, R240, X8: a valid frame that is not malformed gets exactly one response, unless it is a broadcast and
`BCAST_RESPOND` is false; the response's CRC verifies, its first byte is the request's, and it is a normal response or
an exception response of exactly 5 bytes with a code of 1 to 4. -/
def Obligations.EveryResponseVerifies : Prop :=
  ∀ (s t : State) (frame : List Byte), LatchedFrame s frame → exec .loopIter s = .next t →
    (crcOk frame = false ∨ decodeRequest frame = .error .malformedLength ∨
        (byteAt frame 0 = 0 ∧ s.cfg.bcastRespond = false) → t.tx = s.tx) ∧
    (crcOk frame = true → (∃ i, decodeRequest frame = .ok i) →
      (byteAt frame 0 ≠ 0 ∨ s.cfg.bcastRespond = true) →
      ∃ r, t.tx = s.tx ++ [r] ∧ crcOk r = true ∧ mbcrc r = 0 ∧ byteAt r 0 = byteAt frame 0 ∧
        (byteAt r 1 = byteAt frame 1 ∨
          byteAt r 1 = byteAt frame 1 ||| 0x80 ∧ r.length = 5 ∧ 1 ≤ (byteAt r 2).toNat ∧ (byteAt r 2).toNat ≤ 4))

/-- R156 (d), R225, X9: a frame with one bit flipped anywhere, payload or CRC field, is dropped without a response and
without a kick. -/
def Obligations.SingleBitErrorIsNeverAnswered : Prop :=
  ∀ (s : State) (sent received : List Byte), crcOk sent = true → Config.minFrame ≤ sent.length →
    OneBitApart sent received → LatchedFrame s received →
    ∃ t, exec .loopIter s = .next t ∧ t.tx = s.tx ∧ t.wdgDeadline = s.wdgDeadline ∧ t.hold = s.hold ∧
      t.nvTrace = s.nvTrace ∧ t.imgTrace = s.imgTrace ∧ t.rxLen = 0

/-! ### Exceptions (60_exceptions.md) -/

/-- R316, R326, R127: taking an exception saves nothing and writes only the response and the latch; the response frame
is 5 bytes. -/
def Obligations.ExceptionIsAFiveByteResponse : Prop :=
  ∀ (s : State) (addr fc : Byte) (code : ExcCode),
    raiseExc addr fc code s = complete addr [addr, fc ||| 0x80, code.byte] s ∧
    (withCrc [addr, fc ||| 0x80, code.byte]).length = 5 ∧
    (ExcCode.byte .illegalFunction = 1 ∧ ExcCode.byte .illegalAddress = 2 ∧ ExcCode.byte .illegalData = 3 ∧
      ExcCode.byte .deviceFailure = 4)

/-- R312, R130, R227: any CRC-valid latched frame whose function byte is none of the seven is answered with exception 1,
whatever its length and payload. -/
def Obligations.UnsupportedFunctionGetsExceptionOne : Prop :=
  (∀ (s : State) (addr fc : Byte) (payload : List Byte),
    exec (.illegal addr fc payload) s = .next (raiseExc addr fc .illegalFunction s)) ∧
  ∀ (s : State) (frame : List Byte), LatchedFrame s frame → crcOk frame = true →
    byteAt frame 1 ∉ [0x02#8, 0x03#8, 0x04#8, 0x06#8, 0x10#8, 0x16#8, 0x17#8] →
    exec .loopIter s =
      .next (raiseExc (byteAt frame 0) (byteAt frame 1) .illegalFunction (kickWatchdog (resolveAddr s)))

/-- R232, R313, R314, R318 item 4, R260: the read requests' exceptions, in the order of the tests. -/
def Obligations.ReadRangeExceptions : Prop :=
  ∀ (s : State) (addr : Byte) (start qty : U16),
    let raises (fc : Byte) (size : Nat) (run : Host.Outcome State Fault Refusal) : Prop :=
      (size ≤ start.toNat → run = .next (raiseExc addr fc .illegalAddress s)) ∧
      (start.toNat < size → qty = 0 → run = .next (raiseExc addr fc .illegalData s)) ∧
      (start.toNat < size → qty ≠ 0 → size < start.toNat + qty.toNat →
        run = .next (raiseExc addr fc .illegalAddress s))
    raises 0x02 s.disc.length (exec (.rdi addr start qty) s) ∧
    raises 0x04 s.inp.length (exec (.rir addr start qty) s) ∧
    raises 0x03 s.hold.length (exec (.rhr addr start qty) s)

/-! ### Read requests (43_read_functions.md) -/

/-- R261, R264: Read Discrete Inputs answers with the LSB-first bitmap, padded with 0, and changes nothing else. -/
def Obligations.ReadDiscreteInputsPacksTheBits : Prop :=
  ∀ (s : State) (addr : Byte) (start qty : U16), 1 ≤ qty.toNat → start.toNat + qty.toNat ≤ s.disc.length →
    ∃ d : List Byte, exec (.rdi addr start qty) s =
        .next (complete addr ([addr, 0x02, BitVec.ofNat 8 ((qty.toNat + 7) / 8)] ++ d) s) ∧
      d.length = (qty.toNat + 7) / 8 ∧
      (∀ i, i < qty.toNat → some ((byteAt d (i / 8)).getLsbD (i % 8)) = s.disc[start.toNat + i]?) ∧
      (∀ i, qty.toNat ≤ i → (byteAt d (i / 8)).getLsbD (i % 8) = false)

/-- R262, R263, R264: the register reads answer with the cells of their own bank, big-endian and ascending, and change
nothing else. -/
def Obligations.ReadRegistersReturnsTheCells : Prop :=
  ∀ (s : State) (addr : Byte) (start qty : U16), 1 ≤ qty.toNat →
    (start.toNat + qty.toNat ≤ s.inp.length →
      ∃ d : List Byte, exec (.rir addr start qty) s =
          .next (complete addr ([addr, 0x04, BitVec.ofNat 8 (2 * qty.toNat)] ++ d) s) ∧
        d.length = 2 * qty.toNat ∧
        ∀ i, i < qty.toNat → some (be16 (byteAt d (2 * i)) (byteAt d (2 * i + 1))) = s.inp[start.toNat + i]?) ∧
    (start.toNat + qty.toNat ≤ s.hold.length →
      ∃ d : List Byte, exec (.rhr addr start qty) s =
          .next (complete addr ([addr, 0x03, BitVec.ofNat 8 (2 * qty.toNat)] ++ d) s) ∧
        d.length = 2 * qty.toNat ∧
        ∀ i, i < qty.toNat → some (be16 (byteAt d (2 * i)) (byteAt d (2 * i + 1))) = s.hold[start.toNat + i]?)

/-! ### Write requests (44_write_functions.md) -/

/-- R280, R82: Write Single Holding Register: the address test, the write of an equal value without a persistence
call, the persisted write, and the failed one. The answer to the call is free (log 9): it is what `nextAnswer` gives,
for every list of answers. -/
def Obligations.WriteSingleRegister : Prop :=
  ∀ (s : State) (addr : Byte) (reg val : U16),
    let echo := [addr, 0x06, hi8 reg, lo8 reg, hi8 val, lo8 val]
    let answer := nextAnswer s.nvAnswers Config.freeNvAnswer s.nvTrace.length
    let persisted := { s with
      nvAnswers := s.nvAnswers.tail
      nvTrace := s.nvTrace ++ [⟨s.cfg.holdNvBase + s.cfg.holdNvStride * reg.toNat, [hi8 val, lo8 val], answer⟩] }
    (s.hold.length ≤ reg.toNat → exec (.wsr addr reg val) s = .next (raiseExc addr 0x06 .illegalAddress s)) ∧
    (s.hold[reg.toNat]? = some val → exec (.wsr addr reg val) s = .next (complete addr echo s)) ∧
    (∀ old, s.hold[reg.toNat]? = some old → old ≠ val →
      (answer = .ok → exec (.wsr addr reg val) s =
        .next (complete addr echo { persisted with hold := s.hold.set reg.toNat val })) ∧
      (answer = .fail → exec (.wsr addr reg val) s = .next (raiseExc addr 0x06 .deviceFailure persisted)))

/-- R288, R82: Mask Write Register computes the masked value and writes it like a single write. -/
def Obligations.MaskWriteRegister : Prop :=
  ∀ (s : State) (addr : Byte) (ref andMask orMask : U16),
    let echo := [addr, 0x16, hi8 ref, lo8 ref, hi8 andMask, lo8 andMask, hi8 orMask, lo8 orMask]
    let answer := nextAnswer s.nvAnswers Config.freeNvAnswer s.nvTrace.length
    (s.hold.length ≤ ref.toNat →
      exec (.mwr addr ref andMask orMask) s = .next (raiseExc addr 0x16 .illegalAddress s)) ∧
    (∀ cur, s.hold[ref.toNat]? = some cur →
      let new := (cur &&& andMask) ||| (orMask &&& ~~~andMask)
      let persisted := { s with
        nvAnswers := s.nvAnswers.tail
        nvTrace := s.nvTrace ++ [⟨s.cfg.holdNvBase + s.cfg.holdNvStride * ref.toNat, [hi8 new, lo8 new], answer⟩] }
      (new = cur → exec (.mwr addr ref andMask orMask) s = .next (complete addr echo s)) ∧
      (new ≠ cur → answer = .ok → exec (.mwr addr ref andMask orMask) s =
        .next (complete addr echo { persisted with hold := s.hold.set ref.toNat new })) ∧
      (new ≠ cur → answer = .fail → exec (.mwr addr ref andMask orMask) s =
        .next (raiseExc addr 0x16 .deviceFailure persisted)))

/-- R234, R282, R286, R318 items 5 and 6: the validation of the multiple writes, in its order, before any write. -/
def Obligations.WriteRangeExceptions : Prop :=
  ∀ (s : State) (addr : Byte) (rstart rqty start qty : U16) (data : List Byte),
    let k := s.hold.length
    (k < start.toNat + qty.toNat →
      exec (.wmr addr start qty data) s = .next (raiseExc addr 0x10 .illegalAddress s)) ∧
    (start.toNat + qty.toNat ≤ k → data.length ≠ 2 * qty.toNat →
      exec (.wmr addr start qty data) s = .next (raiseExc addr 0x10 .illegalData s)) ∧
    (k ≤ rstart.toNat →
      exec (.rwm addr rstart rqty start qty data) s = .next (raiseExc addr 0x17 .illegalAddress s)) ∧
    (rstart.toNat < k → rqty = 0 →
      exec (.rwm addr rstart rqty start qty data) s = .next (raiseExc addr 0x17 .illegalData s)) ∧
    (rstart.toNat < k → rqty ≠ 0 → k < rstart.toNat + rqty.toNat →
      exec (.rwm addr rstart rqty start qty data) s = .next (raiseExc addr 0x17 .illegalAddress s)) ∧
    (rqty ≠ 0 → rstart.toNat + rqty.toNat ≤ k → k < start.toNat + qty.toNat →
      exec (.rwm addr rstart rqty start qty data) s = .next (raiseExc addr 0x17 .illegalAddress s)) ∧
    (rqty ≠ 0 → rstart.toNat + rqty.toNat ≤ k → start.toNat + qty.toNat ≤ k → data.length ≠ 2 * qty.toNat →
      exec (.rwm addr rstart rqty start qty data) s = .next (raiseExc addr 0x17 .illegalData s))

/-- R282, R83, R290: a valid multiple write either writes every addressed cell and is answered normally, with one
persistence call for each cell whose value changes, in ascending order; or stops at the first call that fails, with
exactly the cells before it written, and gets exception 4. It is answered normally where the coming answers are `ok`.
Value `i` is `be16` of data bytes `2i` and `2i+1`. -/
def Obligations.WriteMultipleRegisters : Prop :=
  ∀ (s : State) (addr : Byte) (start qty : U16) (data : List Byte),
    start.toNat + qty.toNat ≤ s.hold.length → data.length = 2 * qty.toNat →
    ∃ (vals : List U16) (t : State), vals.length = qty.toNat ∧
      (∀ i, i < qty.toNat → vals[i]? = some (be16 (byteAt data (2 * i)) (byteAt data (2 * i + 1)))) ∧
      let completed : Prop :=
        HoldsFirst s t start.toNat vals qty.toNat ∧
          t.nvTrace = s.nvTrace ++ persistCalls s start.toNat vals qty.toNat ∧
          exec (.wmr addr start qty data) s =
            .next (complete addr [addr, 0x10, hi8 start, lo8 start, hi8 qty, lo8 qty] t)
      ((∀ k, k < qty.toNat → s.nvAnswers[k]? = some .ok) → completed) ∧
      (completed ∨
        ∃ m v, m < qty.toNat ∧ vals[m]? = some v ∧ s.hold[start.toNat + m]? ≠ some v ∧
          HoldsFirst s t start.toNat vals m ∧
          t.nvTrace = s.nvTrace ++ persistCalls s start.toNat vals m ++
            [⟨holdOffset s.cfg (start.toNat + m), [hi8 v, lo8 v], .fail⟩] ∧
          exec (.wmr addr start qty data) s = .next (raiseExc addr 0x10 .deviceFailure t))

/-- R286, R83, R290: a valid read/write multiple writes first, then reads, so the data returned are those of the bank
after the write; on a persistence failure nothing is read and exception 4 is sent. It is answered normally where the
coming answers are `ok`. -/
def Obligations.ReadWriteMultipleWritesThenReads : Prop :=
  ∀ (s : State) (addr : Byte) (rstart rqty wstart wqty : U16) (wdata : List Byte),
    1 ≤ rqty.toNat → rstart.toNat + rqty.toNat ≤ s.hold.length →
    wstart.toNat + wqty.toNat ≤ s.hold.length → wdata.length = 2 * wqty.toNat →
    ∃ (vals : List U16) (t : State), vals.length = wqty.toNat ∧
      (∀ i, i < wqty.toNat → vals[i]? = some (be16 (byteAt wdata (2 * i)) (byteAt wdata (2 * i + 1)))) ∧
      let completed : Prop :=
        HoldsFirst s t wstart.toNat vals wqty.toNat ∧
          t.nvTrace = s.nvTrace ++ persistCalls s wstart.toNat vals wqty.toNat ∧
          ∃ d : List Byte, exec (.rwm addr rstart rqty wstart wqty wdata) s =
              .next (complete addr ([addr, 0x17, BitVec.ofNat 8 (2 * rqty.toNat)] ++ d) t) ∧
            d.length = 2 * rqty.toNat ∧
            ∀ i, i < rqty.toNat →
              some (be16 (byteAt d (2 * i)) (byteAt d (2 * i + 1))) = t.hold[rstart.toNat + i]?
      ((∀ k, k < wqty.toNat → s.nvAnswers[k]? = some .ok) → completed) ∧
      (completed ∨
        ∃ m v, m < wqty.toNat ∧ vals[m]? = some v ∧ s.hold[wstart.toNat + m]? ≠ some v ∧
          HoldsFirst s t wstart.toNat vals m ∧
          t.nvTrace = s.nvTrace ++ persistCalls s wstart.toNat vals m ++
            [⟨holdOffset s.cfg (wstart.toNat + m), [hi8 v, lo8 v], .fail⟩] ∧
          exec (.rwm addr rstart rqty wstart wqty wdata) s = .next (raiseExc addr 0x17 .deviceFailure t))

/-- R284, R86, R88: the overlay arm forwards the data bytes at `(start - 0x1000) * 2`, ignoring the quantity; without an
upgrade in progress it gets exception 2 and forwards nothing; a failed image write gets exception 4. That a failed image
write is followed by the event that clears `UPG_INPROGRESS` is DEDUCED (log 10). -/
def Obligations.OverlayWriteForwardsTheBytes : Prop :=
  ∀ (s : State) (addr : Byte) (start qty : U16) (data : List Byte), 0x1000 ≤ start.toNat →
    let answer := nextAnswer s.imgAnswers Config.freeImgAnswer s.imgTrace.length
    let forwarded := { s with
      imgAnswers := s.imgAnswers.tail
      imgTrace := s.imgTrace ++ [⟨(start.toNat - 0x1000) * 2, data, answer⟩] }
    (s.upgInProgress = false →
      exec (.wmrOvl addr start qty data) s = .next (raiseExc addr 0x10 .illegalAddress s)) ∧
    (s.upgInProgress = true → answer = .ok → exec (.wmrOvl addr start qty data) s =
      .next (complete addr [addr, 0x10, hi8 start, lo8 start, hi8 qty, lo8 qty] forwarded)) ∧
    (s.upgInProgress = true → answer = .fail → exec (.wmrOvl addr start qty data) s =
      .next (raiseExc addr 0x10 .deviceFailure
        { forwarded with inputs := .setUpgInProgress false :: s.inputs }))

/-- Frames of the requests. All of them keep every register but `RX_CUR`, `RX_LEN`, `DE` and `TX` (R244, R242). The
reads, the overlay arm and the illegal class keep `HOLD` and the persistence port. The writes keep every holding cell
outside the range they address, and the image port. -/
def Obligations.RequestFrames : Prop :=
  ∀ (s t : State) (i : Instr), i.isRequest = true → exec i s = .next t →
    (t.fb = s.fb ∧ t.crcrAcc = s.crcrAcc ∧ t.crcfAcc = s.crcfAcc ∧ t.crcfPoly = s.crcfPoly ∧
      t.tmrArmed = s.tmrArmed ∧ t.tmrCnt = s.tmrCnt ∧ t.t35Reload = s.t35Reload ∧ t.baud = s.baud ∧
      t.addrBase = s.addrBase ∧ t.strap = s.strap ∧ t.slaveAddr = s.slaveAddr ∧ t.wdgDeadline = s.wdgDeadline ∧
      t.tickMs = s.tickMs ∧ t.disc = s.disc ∧ t.inp = s.inp ∧ t.upgInProgress = s.upgInProgress ∧ t.cfg = s.cfg ∧
      t.hold.length = s.hold.length) ∧
    ((∃ addr start qty, i = .rdi addr start qty ∨ i = .rir addr start qty ∨ i = .rhr addr start qty) ∨
        (∃ addr start qty data, i = .wmrOvl addr start qty data) ∨ (∃ addr fc payload, i = .illegal addr fc payload) →
      t.hold = s.hold ∧ t.nvTrace = s.nvTrace ∧ t.nvAnswers = s.nvAnswers) ∧
    ((∀ addr start qty data, i ≠ .wmrOvl addr start qty data) →
      t.imgTrace = s.imgTrace ∧ t.imgAnswers = s.imgAnswers ∧ t.inputs = s.inputs) ∧
    (∀ addr reg val, i = .wsr addr reg val → ∀ a, a ≠ reg.toNat → t.hold[a]? = s.hold[a]?) ∧
    (∀ addr ref x y, i = .mwr addr ref x y → ∀ a, a ≠ ref.toNat → t.hold[a]? = s.hold[a]?) ∧
    (∀ addr start qty data, i = .wmr addr start qty data →
      ∀ a, ¬(start.toNat ≤ a ∧ a < start.toNat + qty.toNat) → t.hold[a]? = s.hold[a]?) ∧
    (∀ addr rstart rqty start qty data, i = .rwm addr rstart rqty start qty data →
      ∀ a, ¬(start.toNat ≤ a ∧ a < start.toNat + qty.toNat) → t.hold[a]? = s.hold[a]?)

/-! ### Whole-machine rules -/

/-- R82, X11: no operation changes a holding register without a persistence call that was answered `ok`. -/
def Obligations.HoldingChangesOnlyWithPersistence : Prop :=
  ∀ (s t : State) (i : Instr), exec i s = .next t → ∃ calls, t.nvTrace = s.nvTrace ++ calls ∧
    ∀ a v, t.hold[a]? = some v → s.hold[a]? ≠ some v →
      ⟨holdOffset s.cfg a, [hi8 v, lo8 v], .ok⟩ ∈ calls

/-- R93, R332: no operation writes the discrete or the input bank. -/
def Obligations.NoOperationWritesTheReadOnlyBanks : Prop :=
  ∀ (s t : State) (i : Instr), exec i s = .next t → t.disc = s.disc ∧ t.inp = s.inp

/-- R39: a frame is appended to `TX` only by LOOP.ITER, one at a time, and only a system reset empties it (R350). -/
def Obligations.OnlyTheMainLoopTransmits : Prop :=
  ∀ s t : State, step s = .next t → t.tx ≠ s.tx →
    ((∃ rest, s.inputs = .operation ⟨0xA, 0⟩ :: rest) ∧ ∃ r, t.tx = s.tx ++ [r]) ∨
    ((∃ l rest, s.inputs = .systemReset l :: rest) ∧ t.tx = [])

/-- R45, R8: the parameters and the bank sizes are fixed for a run: no step changes them, so a configuration the spec
describes stays one. -/
def Obligations.ConfigurationIsFixedForARun : Prop :=
  ∀ s t : State, step s = .next t →
    t.cfg = s.cfg ∧ t.disc.length = s.disc.length ∧ t.inp.length = s.inp.length ∧ t.hold.length = s.hold.length ∧
      configOk t = true

/-- R31 with R38, R40, R41: the invariant of the receiver and of the outputs is kept by every step. The upper bound of
I4 is not part of it (log 15). -/
def Obligations.EveryStepKeepsTheInvariant : Prop :=
  ∀ s t : State, Inv s → step s = .next t → Inv t

/-- The invariant holds after reset, for every configuration and every launch. -/
def Obligations.ResetMeetsTheInvariant : Prop :=
  ∀ (cfg : Config) (l : Launch), Inv (State.launch cfg l)

/-- No step of a state that meets the invariant ends in a fault: every fault of the model is for a state no run
reaches. -/
def Obligations.NoReachableStepFaults : Prop :=
  ∀ s : State, Inv s → StepSafe s

/-- The upper bound that R31 gives in I4, `TMR_CNT ≤ T35_RELOAD`, as an invariant of every step. It does not hold: a
CFG.BAUD to a higher rate under a running timer lowers `T35_RELOAD` and keeps `TMR_CNT` (R195; log 15). -/
def Obligations.TimerCountStaysWithinTheReload : Prop :=
  ∀ s t : State, Inv s → CountWithinReload s → step s = .next t → CountWithinReload t

/-- The bound of R31 (I4) is kept by every step whose event is not a CFG.BAUD. -/
def Obligations.TimerCountStaysWithinTheReloadUnlessReprogrammed : Prop :=
  ∀ s t : State, Inv s → CountWithinReload s → (∀ rate rest, s.inputs ≠ .operation ⟨0x8, rate⟩ :: rest) →
    step s = .next t → CountWithinReload t

/-- R362, R357: while a frame is latched, neither a received byte nor a timer count changes anything, and a millisecond
tick changes the tick only. -/
def Obligations.InterruptSideIsInertWhileLatched : Prop :=
  ∀ (s : State) (b : Byte), Inv s → s.rxLen ≠ 0 →
    exec (.rxByte b) s = .next s ∧ exec .tmrTick s = .next s ∧
    exec .msTick s = .next { s with tickMs := (s.tickMs + 1) % 2 ^ s.cfg.tickW }

/-! ### Codes (30_encoding.md) -/

/-- Decoding an encoded well-formed instruction gives it back, for every instruction and every operand; an encoded
frame passes the CRC check (R115). -/
def Obligations.DecodeInvertsEncode : Prop :=
  ∀ i : Instr, i.wf = true → decode (encode i) = .ok i ∧ ∀ frame, encode i = .frame frame → crcOk frame = true

/-- A frame that passes the CRC check and decodes is the encoding of what it decodes to: the decoder drops no byte. -/
def Obligations.EncodeInvertsDecodeOfFrames : Prop :=
  ∀ (frame : List Byte) (i : Instr), crcOk frame = true → decodeRequest frame = .ok i →
    i.wf = true ∧ encode i = .frame frame

/-- Codes written out from R112 and from the worked frames of 43_read_functions.md and 44_write_functions.md. -/
def Obligations.WorkedCodesDecode : Prop :=
  decodeOperation ⟨0x5, 0x0B⟩ = .ok (.rxByte 0x0B) ∧
  decodeOperation ⟨0x8, 9600⟩ = .ok (.cfgBaud 9600) ∧
  decodeRequest [0x0B, 0x02, 0x00, 0x00, 0x00, 0x0A, 0xF8, 0xA7] = .ok (.rdi 0x0B 0 10) ∧
  decodeRequest [0x0B, 0x03, 0x00, 0x00, 0x00, 0x02, 0xC4, 0xA1] = .ok (.rhr 0x0B 0 2) ∧
  decodeRequest [0x0B, 0x16, 0x00, 0x02, 0x00, 0xF2, 0x00, 0x25, 0x6F, 0x91] = .ok (.mwr 0x0B 2 0x00F2 0x0025) ∧
  decodeRequest [0x0B, 0x10, 0x10, 0x08, 0x00, 0x01, 0x02, 0x14, 0x6C, 0xC7, 0x54]
    = .ok (.wmrOvl 0x0B 0x1008 1 [0x14, 0x6C]) ∧
  decodeRequest [0x0B, 0x11, 0x00, 0x0C, 0x52] = .ok (.illegal 0x0B 0x11 [0x00])

/-- R113: the reserved operation codes are refused in every state. That a reserved code is reserved whatever operand
follows it is the model's choice (log 24). -/
def Obligations.ReservedCodesAreRefused : Prop :=
  ∀ (s : State) (op : Nibble) (operand : Nat), 0xB ≤ op.toNat →
    ∃ i, decodeOperation ⟨op, operand⟩ = .ok i ∧ i ∈ [.reservedB, .reservedC, .reservedD, .reservedE, .reservedF] ∧
      exec i s = .refused (.reservedOperation op)

/-! ### Steps, events, reset -/

/-- R12: a step whose event is an operation word runs the decoded operation on the state with the event taken off. -/
def Obligations.StepRunsTheDecodedOperation : Prop :=
  ∀ (s : State) (w : OpWord) (rest : List Input) (i : Instr), configOk s = true → s.inputs = .operation w :: rest →
    decodeOperation w = .ok i → step s = exec i { s with inputs := rest }

/-- R6, R8, U2: a configuration outside their limits is refused. That it is step that refuses it (log 22), that without
an event the state stays (log 3), and that a word whose operand R112's operation does not have (too wide, or one where
there is none) is refused by the name undecodable (log 24), are the model's choices. -/
def Obligations.StepRefusesWhatTheSpecGivesNoMeaning : Prop :=
  ∀ s : State,
    ((2000 < s.disc.length ∨ 125 < s.inp.length ∨ 125 < s.hold.length ∨ s.disc = [] ∨ s.inp = [] ∨ s.hold = [] ∨
      s.cfg.bufCap < 5) → step s = .refused .invalidConfiguration) ∧
    (configOk s = true → (s.inputs = [] → step s = .next s) ∧
      ∀ w rest r, s.inputs = .operation w :: rest → decodeOperation w = .error r →
        step s = .refused (.undecodable r))

/-- R43, R44, R79, R34, R35, U1: what a collaborator changes between operations (log 11). -/
def Obligations.CollaboratorsWriteBetweenOperations : Prop :=
  ∀ (s : State) (rest : List Input), configOk s = true →
    (∀ i b, s.inputs = .setDiscrete i b :: rest → step s =
      if i < s.disc.length then .next { s with inputs := rest, disc := s.disc.set i b }
      else .refused .bankIndexOutOfRange) ∧
    (∀ i v, s.inputs = .setInput i v :: rest → step s =
      if i < s.inp.length then .next { s with inputs := rest, inp := s.inp.set i v }
      else .refused .bankIndexOutOfRange) ∧
    (∀ i v, s.inputs = .setHolding i v :: rest →
      (s.hold.length ≤ i → step s = .refused .bankIndexOutOfRange) ∧
      (i < s.hold.length →
        ∃ answer t, setHolding i v { s with inputs := rest } = some (answer, t) ∧ step s = .next t)) ∧
    (∀ b, s.inputs = .setUpgInProgress b :: rest → step s = .next { s with inputs := rest, upgInProgress := b }) ∧
    (∀ b, s.inputs = .setAddrBase b :: rest → step s = .next { s with inputs := rest, addrBase := b }) ∧
    (∀ x, s.inputs = .setStrap x :: rest → step s = .next { s with inputs := rest, strap := x })

/-- R350, R351, R49: a system reset puts every piece of the block's state at its reset value, with the banks as
launched; it empties `TX`. What stays is the model's own (log 12). -/
def Obligations.SystemResetRestoresTheResetState : Prop :=
  ∀ (s : State) (l : Launch) (rest : List Input), configOk s = true → s.inputs = .systemReset l :: rest →
    l.disc.length = s.disc.length → l.inp.length = s.inp.length → l.hold.length = s.hold.length →
    ∃ t, step s = .next t ∧ t.rxLen = 0 ∧ t.rxCur = 0 ∧ t.tmrArmed = false ∧ t.de = false ∧ t.tx = [] ∧
      t.crcfPoly = 0x1021 ∧ t.fb = [] ∧ t.disc = l.disc ∧ t.inp = l.inp ∧ t.hold = l.hold ∧
      t.upgInProgress = l.upgInProgress ∧ t.addrBase = l.addrBase ∧ t.strap = l.strap ∧ t.cfg = s.cfg ∧
      t.crcrAccWritten = false ∧ t.crcfAccWritten = false ∧ t.baudWritten = false ∧ t.slaveAddrWritten = false ∧
      t.tickMs = l.tickMs % 2 ^ s.cfg.tickW ∧ t.inputs = rest

/-- R49: what reset leaves, the values the spec gives: Idle, the timer disarmed, `DE` 0, `TX` empty, `CRCF_POLY`
0x1021, the launch parameters as launched, and no register written (R50; the written bits are log 7, the reduced tick
log 21). The last conjunct is no rule of the spec: that `State.reset` has the example configuration (log 4) and the
example launch (log 5) is the model's choice. -/
def Obligations.ResetLeavesTheReceiverIdle : Prop :=
  ∀ (cfg : Config) (l : Launch),
    let s := State.launch cfg l
    s.rxLen = 0 ∧ s.rxCur = 0 ∧ s.tmrArmed = false ∧ s.de = false ∧ s.tx = [] ∧ s.crcfPoly = 0x1021 ∧
    s.disc = l.disc ∧ s.inp = l.inp ∧ s.hold = l.hold ∧ s.upgInProgress = l.upgInProgress ∧
    s.addrBase = l.addrBase ∧ s.strap = l.strap ∧ (l.tickMs < 2 ^ cfg.tickW → s.tickMs = l.tickMs) ∧
    s.crcrAccWritten = false ∧ s.crcfAccWritten = false ∧ s.baudWritten = false ∧ s.slaveAddrWritten = false ∧
    (∀ a, s.fb.read a = none) ∧ State.reset = State.launch Config.example95 Launch.example95
end

