-- ==== Sys2Proof/Laws/State.lean ====
section
/-! SUPPORT. One lemma per field per named update of the state. -/

namespace Sys2Proof.Machine

variable (s : State)

/-! ### storeFrameByte -/

@[simp] theorem storeFrameByte_crcrAcc (a : Nat) (b : Byte) : (storeFrameByte a b s).crcrAcc = s.crcrAcc := rfl
@[simp] theorem storeFrameByte_crcfAcc (a : Nat) (b : Byte) : (storeFrameByte a b s).crcfAcc = s.crcfAcc := rfl
@[simp] theorem storeFrameByte_crcfPoly (a : Nat) (b : Byte) : (storeFrameByte a b s).crcfPoly = s.crcfPoly := rfl
@[simp] theorem storeFrameByte_fb (a : Nat) (b : Byte) : (storeFrameByte a b s).fb = s.fb.write a b := rfl
@[simp] theorem storeFrameByte_rxCur (a : Nat) (b : Byte) : (storeFrameByte a b s).rxCur = s.rxCur := rfl
@[simp] theorem storeFrameByte_rxLen (a : Nat) (b : Byte) : (storeFrameByte a b s).rxLen = s.rxLen := rfl
@[simp] theorem storeFrameByte_tmrArmed (a : Nat) (b : Byte) : (storeFrameByte a b s).tmrArmed = s.tmrArmed := rfl
@[simp] theorem storeFrameByte_tmrCnt (a : Nat) (b : Byte) : (storeFrameByte a b s).tmrCnt = s.tmrCnt := rfl
@[simp] theorem storeFrameByte_t35Reload (a : Nat) (b : Byte) : (storeFrameByte a b s).t35Reload = s.t35Reload := rfl
@[simp] theorem storeFrameByte_baud (a : Nat) (b : Byte) : (storeFrameByte a b s).baud = s.baud := rfl
@[simp] theorem storeFrameByte_addrBase (a : Nat) (b : Byte) : (storeFrameByte a b s).addrBase = s.addrBase := rfl
@[simp] theorem storeFrameByte_strap (a : Nat) (b : Byte) : (storeFrameByte a b s).strap = s.strap := rfl
@[simp] theorem storeFrameByte_slaveAddr (a : Nat) (b : Byte) : (storeFrameByte a b s).slaveAddr = s.slaveAddr := rfl
@[simp] theorem storeFrameByte_de (a : Nat) (b : Byte) : (storeFrameByte a b s).de = s.de := rfl
@[simp] theorem storeFrameByte_tx (a : Nat) (b : Byte) : (storeFrameByte a b s).tx = s.tx := rfl
@[simp] theorem storeFrameByte_wdgDeadline (a : Nat) (b : Byte) :
    (storeFrameByte a b s).wdgDeadline = s.wdgDeadline := rfl
@[simp] theorem storeFrameByte_tickMs (a : Nat) (b : Byte) : (storeFrameByte a b s).tickMs = s.tickMs := rfl
@[simp] theorem storeFrameByte_disc (a : Nat) (b : Byte) : (storeFrameByte a b s).disc = s.disc := rfl
@[simp] theorem storeFrameByte_inp (a : Nat) (b : Byte) : (storeFrameByte a b s).inp = s.inp := rfl
@[simp] theorem storeFrameByte_hold (a : Nat) (b : Byte) : (storeFrameByte a b s).hold = s.hold := rfl
@[simp] theorem storeFrameByte_upgInProgress (a : Nat) (b : Byte) :
    (storeFrameByte a b s).upgInProgress = s.upgInProgress := rfl
@[simp] theorem storeFrameByte_crcrAccWritten (a : Nat) (b : Byte) :
    (storeFrameByte a b s).crcrAccWritten = s.crcrAccWritten := rfl
@[simp] theorem storeFrameByte_crcfAccWritten (a : Nat) (b : Byte) :
    (storeFrameByte a b s).crcfAccWritten = s.crcfAccWritten := rfl
@[simp] theorem storeFrameByte_baudWritten (a : Nat) (b : Byte) :
    (storeFrameByte a b s).baudWritten = s.baudWritten := rfl
@[simp] theorem storeFrameByte_slaveAddrWritten (a : Nat) (b : Byte) :
    (storeFrameByte a b s).slaveAddrWritten = s.slaveAddrWritten := rfl
@[simp] theorem storeFrameByte_cfg (a : Nat) (b : Byte) : (storeFrameByte a b s).cfg = s.cfg := rfl
@[simp] theorem storeFrameByte_inputs (a : Nat) (b : Byte) : (storeFrameByte a b s).inputs = s.inputs := rfl
@[simp] theorem storeFrameByte_nvAnswers (a : Nat) (b : Byte) : (storeFrameByte a b s).nvAnswers = s.nvAnswers := rfl
@[simp] theorem storeFrameByte_imgAnswers (a : Nat) (b : Byte) :
    (storeFrameByte a b s).imgAnswers = s.imgAnswers := rfl
@[simp] theorem storeFrameByte_nvTrace (a : Nat) (b : Byte) : (storeFrameByte a b s).nvTrace = s.nvTrace := rfl
@[simp] theorem storeFrameByte_imgTrace (a : Nat) (b : Byte) : (storeFrameByte a b s).imgTrace = s.imgTrace := rfl

/-! ### storeHolding -/

@[simp] theorem storeHolding_crcrAcc (i : Nat) (v : U16) : (storeHolding i v s).crcrAcc = s.crcrAcc := rfl
@[simp] theorem storeHolding_crcfAcc (i : Nat) (v : U16) : (storeHolding i v s).crcfAcc = s.crcfAcc := rfl
@[simp] theorem storeHolding_crcfPoly (i : Nat) (v : U16) : (storeHolding i v s).crcfPoly = s.crcfPoly := rfl
@[simp] theorem storeHolding_fb (i : Nat) (v : U16) : (storeHolding i v s).fb = s.fb := rfl
@[simp] theorem storeHolding_rxCur (i : Nat) (v : U16) : (storeHolding i v s).rxCur = s.rxCur := rfl
@[simp] theorem storeHolding_rxLen (i : Nat) (v : U16) : (storeHolding i v s).rxLen = s.rxLen := rfl
@[simp] theorem storeHolding_tmrArmed (i : Nat) (v : U16) : (storeHolding i v s).tmrArmed = s.tmrArmed := rfl
@[simp] theorem storeHolding_tmrCnt (i : Nat) (v : U16) : (storeHolding i v s).tmrCnt = s.tmrCnt := rfl
@[simp] theorem storeHolding_t35Reload (i : Nat) (v : U16) : (storeHolding i v s).t35Reload = s.t35Reload := rfl
@[simp] theorem storeHolding_baud (i : Nat) (v : U16) : (storeHolding i v s).baud = s.baud := rfl
@[simp] theorem storeHolding_addrBase (i : Nat) (v : U16) : (storeHolding i v s).addrBase = s.addrBase := rfl
@[simp] theorem storeHolding_strap (i : Nat) (v : U16) : (storeHolding i v s).strap = s.strap := rfl
@[simp] theorem storeHolding_slaveAddr (i : Nat) (v : U16) : (storeHolding i v s).slaveAddr = s.slaveAddr := rfl
@[simp] theorem storeHolding_de (i : Nat) (v : U16) : (storeHolding i v s).de = s.de := rfl
@[simp] theorem storeHolding_tx (i : Nat) (v : U16) : (storeHolding i v s).tx = s.tx := rfl
@[simp] theorem storeHolding_wdgDeadline (i : Nat) (v : U16) : (storeHolding i v s).wdgDeadline = s.wdgDeadline := rfl
@[simp] theorem storeHolding_tickMs (i : Nat) (v : U16) : (storeHolding i v s).tickMs = s.tickMs := rfl
@[simp] theorem storeHolding_disc (i : Nat) (v : U16) : (storeHolding i v s).disc = s.disc := rfl
@[simp] theorem storeHolding_inp (i : Nat) (v : U16) : (storeHolding i v s).inp = s.inp := rfl
@[simp] theorem storeHolding_hold (i : Nat) (v : U16) : (storeHolding i v s).hold = s.hold.set i v := rfl
@[simp] theorem storeHolding_upgInProgress (i : Nat) (v : U16) :
    (storeHolding i v s).upgInProgress = s.upgInProgress := rfl
@[simp] theorem storeHolding_crcrAccWritten (i : Nat) (v : U16) :
    (storeHolding i v s).crcrAccWritten = s.crcrAccWritten := rfl
@[simp] theorem storeHolding_crcfAccWritten (i : Nat) (v : U16) :
    (storeHolding i v s).crcfAccWritten = s.crcfAccWritten := rfl
@[simp] theorem storeHolding_baudWritten (i : Nat) (v : U16) : (storeHolding i v s).baudWritten = s.baudWritten := rfl
@[simp] theorem storeHolding_slaveAddrWritten (i : Nat) (v : U16) :
    (storeHolding i v s).slaveAddrWritten = s.slaveAddrWritten := rfl
@[simp] theorem storeHolding_cfg (i : Nat) (v : U16) : (storeHolding i v s).cfg = s.cfg := rfl
@[simp] theorem storeHolding_inputs (i : Nat) (v : U16) : (storeHolding i v s).inputs = s.inputs := rfl
@[simp] theorem storeHolding_nvAnswers (i : Nat) (v : U16) : (storeHolding i v s).nvAnswers = s.nvAnswers := rfl
@[simp] theorem storeHolding_imgAnswers (i : Nat) (v : U16) : (storeHolding i v s).imgAnswers = s.imgAnswers := rfl
@[simp] theorem storeHolding_nvTrace (i : Nat) (v : U16) : (storeHolding i v s).nvTrace = s.nvTrace := rfl
@[simp] theorem storeHolding_imgTrace (i : Nat) (v : U16) : (storeHolding i v s).imgTrace = s.imgTrace := rfl

/-! ### resolveAddr -/

@[simp] theorem resolveAddr_crcrAcc : (resolveAddr s).crcrAcc = s.crcrAcc := rfl
@[simp] theorem resolveAddr_crcfAcc : (resolveAddr s).crcfAcc = s.crcfAcc := rfl
@[simp] theorem resolveAddr_crcfPoly : (resolveAddr s).crcfPoly = s.crcfPoly := rfl
@[simp] theorem resolveAddr_fb : (resolveAddr s).fb = s.fb := rfl
@[simp] theorem resolveAddr_rxCur : (resolveAddr s).rxCur = s.rxCur := rfl
@[simp] theorem resolveAddr_rxLen : (resolveAddr s).rxLen = s.rxLen := rfl
@[simp] theorem resolveAddr_tmrArmed : (resolveAddr s).tmrArmed = s.tmrArmed := rfl
@[simp] theorem resolveAddr_tmrCnt : (resolveAddr s).tmrCnt = s.tmrCnt := rfl
@[simp] theorem resolveAddr_t35Reload : (resolveAddr s).t35Reload = s.t35Reload := rfl
@[simp] theorem resolveAddr_baud : (resolveAddr s).baud = s.baud := rfl
@[simp] theorem resolveAddr_addrBase : (resolveAddr s).addrBase = s.addrBase := rfl
@[simp] theorem resolveAddr_strap : (resolveAddr s).strap = s.strap := rfl
@[simp] theorem resolveAddr_slaveAddr : (resolveAddr s).slaveAddr = resolvedAddr s := rfl
@[simp] theorem resolveAddr_de : (resolveAddr s).de = s.de := rfl
@[simp] theorem resolveAddr_tx : (resolveAddr s).tx = s.tx := rfl
@[simp] theorem resolveAddr_wdgDeadline : (resolveAddr s).wdgDeadline = s.wdgDeadline := rfl
@[simp] theorem resolveAddr_tickMs : (resolveAddr s).tickMs = s.tickMs := rfl
@[simp] theorem resolveAddr_disc : (resolveAddr s).disc = s.disc := rfl
@[simp] theorem resolveAddr_inp : (resolveAddr s).inp = s.inp := rfl
@[simp] theorem resolveAddr_hold : (resolveAddr s).hold = s.hold := rfl
@[simp] theorem resolveAddr_upgInProgress : (resolveAddr s).upgInProgress = s.upgInProgress := rfl
@[simp] theorem resolveAddr_crcrAccWritten : (resolveAddr s).crcrAccWritten = s.crcrAccWritten := rfl
@[simp] theorem resolveAddr_crcfAccWritten : (resolveAddr s).crcfAccWritten = s.crcfAccWritten := rfl
@[simp] theorem resolveAddr_baudWritten : (resolveAddr s).baudWritten = s.baudWritten := rfl
@[simp] theorem resolveAddr_slaveAddrWritten : (resolveAddr s).slaveAddrWritten = true := rfl
@[simp] theorem resolveAddr_cfg : (resolveAddr s).cfg = s.cfg := rfl
@[simp] theorem resolveAddr_inputs : (resolveAddr s).inputs = s.inputs := rfl
@[simp] theorem resolveAddr_nvAnswers : (resolveAddr s).nvAnswers = s.nvAnswers := rfl
@[simp] theorem resolveAddr_imgAnswers : (resolveAddr s).imgAnswers = s.imgAnswers := rfl
@[simp] theorem resolveAddr_nvTrace : (resolveAddr s).nvTrace = s.nvTrace := rfl
@[simp] theorem resolveAddr_imgTrace : (resolveAddr s).imgTrace = s.imgTrace := rfl

/-! ### kickWatchdog -/

@[simp] theorem kickWatchdog_crcrAcc : (kickWatchdog s).crcrAcc = s.crcrAcc := rfl
@[simp] theorem kickWatchdog_crcfAcc : (kickWatchdog s).crcfAcc = s.crcfAcc := rfl
@[simp] theorem kickWatchdog_crcfPoly : (kickWatchdog s).crcfPoly = s.crcfPoly := rfl
@[simp] theorem kickWatchdog_fb : (kickWatchdog s).fb = s.fb := rfl
@[simp] theorem kickWatchdog_rxCur : (kickWatchdog s).rxCur = s.rxCur := rfl
@[simp] theorem kickWatchdog_rxLen : (kickWatchdog s).rxLen = s.rxLen := rfl
@[simp] theorem kickWatchdog_tmrArmed : (kickWatchdog s).tmrArmed = s.tmrArmed := rfl
@[simp] theorem kickWatchdog_tmrCnt : (kickWatchdog s).tmrCnt = s.tmrCnt := rfl
@[simp] theorem kickWatchdog_t35Reload : (kickWatchdog s).t35Reload = s.t35Reload := rfl
@[simp] theorem kickWatchdog_baud : (kickWatchdog s).baud = s.baud := rfl
@[simp] theorem kickWatchdog_addrBase : (kickWatchdog s).addrBase = s.addrBase := rfl
@[simp] theorem kickWatchdog_strap : (kickWatchdog s).strap = s.strap := rfl
@[simp] theorem kickWatchdog_slaveAddr : (kickWatchdog s).slaveAddr = s.slaveAddr := rfl
@[simp] theorem kickWatchdog_de : (kickWatchdog s).de = s.de := rfl
@[simp] theorem kickWatchdog_tx : (kickWatchdog s).tx = s.tx := rfl
@[simp] theorem kickWatchdog_wdgDeadline :
    (kickWatchdog s).wdgDeadline = (s.tickMs + s.cfg.wdgTimeoutMs) % 2 ^ s.cfg.tickW := rfl
@[simp] theorem kickWatchdog_tickMs : (kickWatchdog s).tickMs = s.tickMs := rfl
@[simp] theorem kickWatchdog_disc : (kickWatchdog s).disc = s.disc := rfl
@[simp] theorem kickWatchdog_inp : (kickWatchdog s).inp = s.inp := rfl
@[simp] theorem kickWatchdog_hold : (kickWatchdog s).hold = s.hold := rfl
@[simp] theorem kickWatchdog_upgInProgress : (kickWatchdog s).upgInProgress = s.upgInProgress := rfl
@[simp] theorem kickWatchdog_crcrAccWritten : (kickWatchdog s).crcrAccWritten = s.crcrAccWritten := rfl
@[simp] theorem kickWatchdog_crcfAccWritten : (kickWatchdog s).crcfAccWritten = s.crcfAccWritten := rfl
@[simp] theorem kickWatchdog_baudWritten : (kickWatchdog s).baudWritten = s.baudWritten := rfl
@[simp] theorem kickWatchdog_slaveAddrWritten : (kickWatchdog s).slaveAddrWritten = s.slaveAddrWritten := rfl
@[simp] theorem kickWatchdog_cfg : (kickWatchdog s).cfg = s.cfg := rfl
@[simp] theorem kickWatchdog_inputs : (kickWatchdog s).inputs = s.inputs := rfl
@[simp] theorem kickWatchdog_nvAnswers : (kickWatchdog s).nvAnswers = s.nvAnswers := rfl
@[simp] theorem kickWatchdog_imgAnswers : (kickWatchdog s).imgAnswers = s.imgAnswers := rfl
@[simp] theorem kickWatchdog_nvTrace : (kickWatchdog s).nvTrace = s.nvTrace := rfl
@[simp] theorem kickWatchdog_imgTrace : (kickWatchdog s).imgTrace = s.imgTrace := rfl

/-! ### transmit -/

@[simp] theorem transmit_crcrAcc (frame : List Byte) : (transmit frame s).crcrAcc = s.crcrAcc := rfl
@[simp] theorem transmit_crcfAcc (frame : List Byte) : (transmit frame s).crcfAcc = s.crcfAcc := rfl
@[simp] theorem transmit_crcfPoly (frame : List Byte) : (transmit frame s).crcfPoly = s.crcfPoly := rfl
@[simp] theorem transmit_fb (frame : List Byte) : (transmit frame s).fb = s.fb := rfl
@[simp] theorem transmit_rxCur (frame : List Byte) : (transmit frame s).rxCur = s.rxCur := rfl
@[simp] theorem transmit_rxLen (frame : List Byte) : (transmit frame s).rxLen = s.rxLen := rfl
@[simp] theorem transmit_tmrArmed (frame : List Byte) : (transmit frame s).tmrArmed = s.tmrArmed := rfl
@[simp] theorem transmit_tmrCnt (frame : List Byte) : (transmit frame s).tmrCnt = s.tmrCnt := rfl
@[simp] theorem transmit_t35Reload (frame : List Byte) : (transmit frame s).t35Reload = s.t35Reload := rfl
@[simp] theorem transmit_baud (frame : List Byte) : (transmit frame s).baud = s.baud := rfl
@[simp] theorem transmit_addrBase (frame : List Byte) : (transmit frame s).addrBase = s.addrBase := rfl
@[simp] theorem transmit_strap (frame : List Byte) : (transmit frame s).strap = s.strap := rfl
@[simp] theorem transmit_slaveAddr (frame : List Byte) : (transmit frame s).slaveAddr = s.slaveAddr := rfl
@[simp] theorem transmit_de (frame : List Byte) : (transmit frame s).de = false := rfl
@[simp] theorem transmit_tx (frame : List Byte) : (transmit frame s).tx = s.tx ++ [frame] := rfl
@[simp] theorem transmit_wdgDeadline (frame : List Byte) : (transmit frame s).wdgDeadline = s.wdgDeadline := rfl
@[simp] theorem transmit_tickMs (frame : List Byte) : (transmit frame s).tickMs = s.tickMs := rfl
@[simp] theorem transmit_disc (frame : List Byte) : (transmit frame s).disc = s.disc := rfl
@[simp] theorem transmit_inp (frame : List Byte) : (transmit frame s).inp = s.inp := rfl
@[simp] theorem transmit_hold (frame : List Byte) : (transmit frame s).hold = s.hold := rfl
@[simp] theorem transmit_upgInProgress (frame : List Byte) : (transmit frame s).upgInProgress = s.upgInProgress := rfl
@[simp] theorem transmit_crcrAccWritten (frame : List Byte) :
    (transmit frame s).crcrAccWritten = s.crcrAccWritten := rfl
@[simp] theorem transmit_crcfAccWritten (frame : List Byte) :
    (transmit frame s).crcfAccWritten = s.crcfAccWritten := rfl
@[simp] theorem transmit_baudWritten (frame : List Byte) : (transmit frame s).baudWritten = s.baudWritten := rfl
@[simp] theorem transmit_slaveAddrWritten (frame : List Byte) :
    (transmit frame s).slaveAddrWritten = s.slaveAddrWritten := rfl
@[simp] theorem transmit_cfg (frame : List Byte) : (transmit frame s).cfg = s.cfg := rfl
@[simp] theorem transmit_inputs (frame : List Byte) : (transmit frame s).inputs = s.inputs := rfl
@[simp] theorem transmit_nvAnswers (frame : List Byte) : (transmit frame s).nvAnswers = s.nvAnswers := rfl
@[simp] theorem transmit_imgAnswers (frame : List Byte) : (transmit frame s).imgAnswers = s.imgAnswers := rfl
@[simp] theorem transmit_nvTrace (frame : List Byte) : (transmit frame s).nvTrace = s.nvTrace := rfl
@[simp] theorem transmit_imgTrace (frame : List Byte) : (transmit frame s).imgTrace = s.imgTrace := rfl

/-! ### release -/

@[simp] theorem release_crcrAcc : (release s).crcrAcc = s.crcrAcc := rfl
@[simp] theorem release_crcfAcc : (release s).crcfAcc = s.crcfAcc := rfl
@[simp] theorem release_crcfPoly : (release s).crcfPoly = s.crcfPoly := rfl
@[simp] theorem release_fb : (release s).fb = s.fb := rfl
@[simp] theorem release_rxCur : (release s).rxCur = 0 := rfl
@[simp] theorem release_rxLen : (release s).rxLen = 0 := rfl
@[simp] theorem release_tmrArmed : (release s).tmrArmed = s.tmrArmed := rfl
@[simp] theorem release_tmrCnt : (release s).tmrCnt = s.tmrCnt := rfl
@[simp] theorem release_t35Reload : (release s).t35Reload = s.t35Reload := rfl
@[simp] theorem release_baud : (release s).baud = s.baud := rfl
@[simp] theorem release_addrBase : (release s).addrBase = s.addrBase := rfl
@[simp] theorem release_strap : (release s).strap = s.strap := rfl
@[simp] theorem release_slaveAddr : (release s).slaveAddr = s.slaveAddr := rfl
@[simp] theorem release_de : (release s).de = s.de := rfl
@[simp] theorem release_tx : (release s).tx = s.tx := rfl
@[simp] theorem release_wdgDeadline : (release s).wdgDeadline = s.wdgDeadline := rfl
@[simp] theorem release_tickMs : (release s).tickMs = s.tickMs := rfl
@[simp] theorem release_disc : (release s).disc = s.disc := rfl
@[simp] theorem release_inp : (release s).inp = s.inp := rfl
@[simp] theorem release_hold : (release s).hold = s.hold := rfl
@[simp] theorem release_upgInProgress : (release s).upgInProgress = s.upgInProgress := rfl
@[simp] theorem release_crcrAccWritten : (release s).crcrAccWritten = s.crcrAccWritten := rfl
@[simp] theorem release_crcfAccWritten : (release s).crcfAccWritten = s.crcfAccWritten := rfl
@[simp] theorem release_baudWritten : (release s).baudWritten = s.baudWritten := rfl
@[simp] theorem release_slaveAddrWritten : (release s).slaveAddrWritten = s.slaveAddrWritten := rfl
@[simp] theorem release_cfg : (release s).cfg = s.cfg := rfl
@[simp] theorem release_inputs : (release s).inputs = s.inputs := rfl
@[simp] theorem release_nvAnswers : (release s).nvAnswers = s.nvAnswers := rfl
@[simp] theorem release_imgAnswers : (release s).imgAnswers = s.imgAnswers := rfl
@[simp] theorem release_nvTrace : (release s).nvTrace = s.nvTrace := rfl
@[simp] theorem release_imgTrace : (release s).imgTrace = s.imgTrace := rfl

/-! ### latchFrame -/

@[simp] theorem latchFrame_crcrAcc : (latchFrame s).crcrAcc = s.crcrAcc := rfl
@[simp] theorem latchFrame_crcfAcc : (latchFrame s).crcfAcc = s.crcfAcc := rfl
@[simp] theorem latchFrame_crcfPoly : (latchFrame s).crcfPoly = s.crcfPoly := rfl
@[simp] theorem latchFrame_fb : (latchFrame s).fb = s.fb := rfl
@[simp] theorem latchFrame_rxCur : (latchFrame s).rxCur = s.rxCur := rfl
@[simp] theorem latchFrame_rxLen : (latchFrame s).rxLen = s.rxCur := rfl
@[simp] theorem latchFrame_tmrArmed : (latchFrame s).tmrArmed = s.tmrArmed := rfl
@[simp] theorem latchFrame_tmrCnt : (latchFrame s).tmrCnt = s.tmrCnt := rfl
@[simp] theorem latchFrame_t35Reload : (latchFrame s).t35Reload = s.t35Reload := rfl
@[simp] theorem latchFrame_baud : (latchFrame s).baud = s.baud := rfl
@[simp] theorem latchFrame_addrBase : (latchFrame s).addrBase = s.addrBase := rfl
@[simp] theorem latchFrame_strap : (latchFrame s).strap = s.strap := rfl
@[simp] theorem latchFrame_slaveAddr : (latchFrame s).slaveAddr = s.slaveAddr := rfl
@[simp] theorem latchFrame_de : (latchFrame s).de = s.de := rfl
@[simp] theorem latchFrame_tx : (latchFrame s).tx = s.tx := rfl
@[simp] theorem latchFrame_wdgDeadline : (latchFrame s).wdgDeadline = s.wdgDeadline := rfl
@[simp] theorem latchFrame_tickMs : (latchFrame s).tickMs = s.tickMs := rfl
@[simp] theorem latchFrame_disc : (latchFrame s).disc = s.disc := rfl
@[simp] theorem latchFrame_inp : (latchFrame s).inp = s.inp := rfl
@[simp] theorem latchFrame_hold : (latchFrame s).hold = s.hold := rfl
@[simp] theorem latchFrame_upgInProgress : (latchFrame s).upgInProgress = s.upgInProgress := rfl
@[simp] theorem latchFrame_crcrAccWritten : (latchFrame s).crcrAccWritten = s.crcrAccWritten := rfl
@[simp] theorem latchFrame_crcfAccWritten : (latchFrame s).crcfAccWritten = s.crcfAccWritten := rfl
@[simp] theorem latchFrame_baudWritten : (latchFrame s).baudWritten = s.baudWritten := rfl
@[simp] theorem latchFrame_slaveAddrWritten : (latchFrame s).slaveAddrWritten = s.slaveAddrWritten := rfl
@[simp] theorem latchFrame_cfg : (latchFrame s).cfg = s.cfg := rfl
@[simp] theorem latchFrame_inputs : (latchFrame s).inputs = s.inputs := rfl
@[simp] theorem latchFrame_nvAnswers : (latchFrame s).nvAnswers = s.nvAnswers := rfl
@[simp] theorem latchFrame_imgAnswers : (latchFrame s).imgAnswers = s.imgAnswers := rfl
@[simp] theorem latchFrame_nvTrace : (latchFrame s).nvTrace = s.nvTrace := rfl
@[simp] theorem latchFrame_imgTrace : (latchFrame s).imgTrace = s.imgTrace := rfl

/-! ### resetBuffer -/

@[simp] theorem resetBuffer_crcrAcc : (resetBuffer s).crcrAcc = s.crcrAcc := rfl
@[simp] theorem resetBuffer_crcfAcc : (resetBuffer s).crcfAcc = s.crcfAcc := rfl
@[simp] theorem resetBuffer_crcfPoly : (resetBuffer s).crcfPoly = s.crcfPoly := rfl
@[simp] theorem resetBuffer_fb : (resetBuffer s).fb = s.fb := rfl
@[simp] theorem resetBuffer_rxCur : (resetBuffer s).rxCur = 0 := rfl
@[simp] theorem resetBuffer_rxLen : (resetBuffer s).rxLen = s.rxLen := rfl
@[simp] theorem resetBuffer_tmrArmed : (resetBuffer s).tmrArmed = s.tmrArmed := rfl
@[simp] theorem resetBuffer_tmrCnt : (resetBuffer s).tmrCnt = s.tmrCnt := rfl
@[simp] theorem resetBuffer_t35Reload : (resetBuffer s).t35Reload = s.t35Reload := rfl
@[simp] theorem resetBuffer_baud : (resetBuffer s).baud = s.baud := rfl
@[simp] theorem resetBuffer_addrBase : (resetBuffer s).addrBase = s.addrBase := rfl
@[simp] theorem resetBuffer_strap : (resetBuffer s).strap = s.strap := rfl
@[simp] theorem resetBuffer_slaveAddr : (resetBuffer s).slaveAddr = s.slaveAddr := rfl
@[simp] theorem resetBuffer_de : (resetBuffer s).de = s.de := rfl
@[simp] theorem resetBuffer_tx : (resetBuffer s).tx = s.tx := rfl
@[simp] theorem resetBuffer_wdgDeadline : (resetBuffer s).wdgDeadline = s.wdgDeadline := rfl
@[simp] theorem resetBuffer_tickMs : (resetBuffer s).tickMs = s.tickMs := rfl
@[simp] theorem resetBuffer_disc : (resetBuffer s).disc = s.disc := rfl
@[simp] theorem resetBuffer_inp : (resetBuffer s).inp = s.inp := rfl
@[simp] theorem resetBuffer_hold : (resetBuffer s).hold = s.hold := rfl
@[simp] theorem resetBuffer_upgInProgress : (resetBuffer s).upgInProgress = s.upgInProgress := rfl
@[simp] theorem resetBuffer_crcrAccWritten : (resetBuffer s).crcrAccWritten = s.crcrAccWritten := rfl
@[simp] theorem resetBuffer_crcfAccWritten : (resetBuffer s).crcfAccWritten = s.crcfAccWritten := rfl
@[simp] theorem resetBuffer_baudWritten : (resetBuffer s).baudWritten = s.baudWritten := rfl
@[simp] theorem resetBuffer_slaveAddrWritten : (resetBuffer s).slaveAddrWritten = s.slaveAddrWritten := rfl
@[simp] theorem resetBuffer_cfg : (resetBuffer s).cfg = s.cfg := rfl
@[simp] theorem resetBuffer_inputs : (resetBuffer s).inputs = s.inputs := rfl
@[simp] theorem resetBuffer_nvAnswers : (resetBuffer s).nvAnswers = s.nvAnswers := rfl
@[simp] theorem resetBuffer_imgAnswers : (resetBuffer s).imgAnswers = s.imgAnswers := rfl
@[simp] theorem resetBuffer_nvTrace : (resetBuffer s).nvTrace = s.nvTrace := rfl
@[simp] theorem resetBuffer_imgTrace : (resetBuffer s).imgTrace = s.imgTrace := rfl

/-! ### armTimer -/

@[simp] theorem armTimer_crcrAcc : (armTimer s).crcrAcc = s.crcrAcc := rfl
@[simp] theorem armTimer_crcfAcc : (armTimer s).crcfAcc = s.crcfAcc := rfl
@[simp] theorem armTimer_crcfPoly : (armTimer s).crcfPoly = s.crcfPoly := rfl
@[simp] theorem armTimer_fb : (armTimer s).fb = s.fb := rfl
@[simp] theorem armTimer_rxCur : (armTimer s).rxCur = s.rxCur := rfl
@[simp] theorem armTimer_rxLen : (armTimer s).rxLen = s.rxLen := rfl
@[simp] theorem armTimer_tmrArmed : (armTimer s).tmrArmed = true := rfl
@[simp] theorem armTimer_tmrCnt : (armTimer s).tmrCnt = s.t35Reload := rfl
@[simp] theorem armTimer_t35Reload : (armTimer s).t35Reload = s.t35Reload := rfl
@[simp] theorem armTimer_baud : (armTimer s).baud = s.baud := rfl
@[simp] theorem armTimer_addrBase : (armTimer s).addrBase = s.addrBase := rfl
@[simp] theorem armTimer_strap : (armTimer s).strap = s.strap := rfl
@[simp] theorem armTimer_slaveAddr : (armTimer s).slaveAddr = s.slaveAddr := rfl
@[simp] theorem armTimer_de : (armTimer s).de = s.de := rfl
@[simp] theorem armTimer_tx : (armTimer s).tx = s.tx := rfl
@[simp] theorem armTimer_wdgDeadline : (armTimer s).wdgDeadline = s.wdgDeadline := rfl
@[simp] theorem armTimer_tickMs : (armTimer s).tickMs = s.tickMs := rfl
@[simp] theorem armTimer_disc : (armTimer s).disc = s.disc := rfl
@[simp] theorem armTimer_inp : (armTimer s).inp = s.inp := rfl
@[simp] theorem armTimer_hold : (armTimer s).hold = s.hold := rfl
@[simp] theorem armTimer_upgInProgress : (armTimer s).upgInProgress = s.upgInProgress := rfl
@[simp] theorem armTimer_crcrAccWritten : (armTimer s).crcrAccWritten = s.crcrAccWritten := rfl
@[simp] theorem armTimer_crcfAccWritten : (armTimer s).crcfAccWritten = s.crcfAccWritten := rfl
@[simp] theorem armTimer_baudWritten : (armTimer s).baudWritten = s.baudWritten := rfl
@[simp] theorem armTimer_slaveAddrWritten : (armTimer s).slaveAddrWritten = s.slaveAddrWritten := rfl
@[simp] theorem armTimer_cfg : (armTimer s).cfg = s.cfg := rfl
@[simp] theorem armTimer_inputs : (armTimer s).inputs = s.inputs := rfl
@[simp] theorem armTimer_nvAnswers : (armTimer s).nvAnswers = s.nvAnswers := rfl
@[simp] theorem armTimer_imgAnswers : (armTimer s).imgAnswers = s.imgAnswers := rfl
@[simp] theorem armTimer_nvTrace : (armTimer s).nvTrace = s.nvTrace := rfl
@[simp] theorem armTimer_imgTrace : (armTimer s).imgTrace = s.imgTrace := rfl

/-! ### nvWrite -/

@[simp] theorem nvWrite_crcrAcc (off : Nat) (bytes : List Byte) : (nvWrite off bytes s).2.crcrAcc = s.crcrAcc := rfl
@[simp] theorem nvWrite_crcfAcc (off : Nat) (bytes : List Byte) : (nvWrite off bytes s).2.crcfAcc = s.crcfAcc := rfl
@[simp] theorem nvWrite_crcfPoly (off : Nat) (bytes : List Byte) :
    (nvWrite off bytes s).2.crcfPoly = s.crcfPoly := rfl
@[simp] theorem nvWrite_fb (off : Nat) (bytes : List Byte) : (nvWrite off bytes s).2.fb = s.fb := rfl
@[simp] theorem nvWrite_rxCur (off : Nat) (bytes : List Byte) : (nvWrite off bytes s).2.rxCur = s.rxCur := rfl
@[simp] theorem nvWrite_rxLen (off : Nat) (bytes : List Byte) : (nvWrite off bytes s).2.rxLen = s.rxLen := rfl
@[simp] theorem nvWrite_tmrArmed (off : Nat) (bytes : List Byte) :
    (nvWrite off bytes s).2.tmrArmed = s.tmrArmed := rfl
@[simp] theorem nvWrite_tmrCnt (off : Nat) (bytes : List Byte) : (nvWrite off bytes s).2.tmrCnt = s.tmrCnt := rfl
@[simp] theorem nvWrite_t35Reload (off : Nat) (bytes : List Byte) :
    (nvWrite off bytes s).2.t35Reload = s.t35Reload := rfl
@[simp] theorem nvWrite_baud (off : Nat) (bytes : List Byte) : (nvWrite off bytes s).2.baud = s.baud := rfl
@[simp] theorem nvWrite_addrBase (off : Nat) (bytes : List Byte) :
    (nvWrite off bytes s).2.addrBase = s.addrBase := rfl
@[simp] theorem nvWrite_strap (off : Nat) (bytes : List Byte) : (nvWrite off bytes s).2.strap = s.strap := rfl
@[simp] theorem nvWrite_slaveAddr (off : Nat) (bytes : List Byte) :
    (nvWrite off bytes s).2.slaveAddr = s.slaveAddr := rfl
@[simp] theorem nvWrite_de (off : Nat) (bytes : List Byte) : (nvWrite off bytes s).2.de = s.de := rfl
@[simp] theorem nvWrite_tx (off : Nat) (bytes : List Byte) : (nvWrite off bytes s).2.tx = s.tx := rfl
@[simp] theorem nvWrite_wdgDeadline (off : Nat) (bytes : List Byte) :
    (nvWrite off bytes s).2.wdgDeadline = s.wdgDeadline := rfl
@[simp] theorem nvWrite_tickMs (off : Nat) (bytes : List Byte) : (nvWrite off bytes s).2.tickMs = s.tickMs := rfl
@[simp] theorem nvWrite_disc (off : Nat) (bytes : List Byte) : (nvWrite off bytes s).2.disc = s.disc := rfl
@[simp] theorem nvWrite_inp (off : Nat) (bytes : List Byte) : (nvWrite off bytes s).2.inp = s.inp := rfl
@[simp] theorem nvWrite_hold (off : Nat) (bytes : List Byte) : (nvWrite off bytes s).2.hold = s.hold := rfl
@[simp] theorem nvWrite_upgInProgress (off : Nat) (bytes : List Byte) :
    (nvWrite off bytes s).2.upgInProgress = s.upgInProgress := rfl
@[simp] theorem nvWrite_crcrAccWritten (off : Nat) (bytes : List Byte) :
    (nvWrite off bytes s).2.crcrAccWritten = s.crcrAccWritten := rfl
@[simp] theorem nvWrite_crcfAccWritten (off : Nat) (bytes : List Byte) :
    (nvWrite off bytes s).2.crcfAccWritten = s.crcfAccWritten := rfl
@[simp] theorem nvWrite_baudWritten (off : Nat) (bytes : List Byte) :
    (nvWrite off bytes s).2.baudWritten = s.baudWritten := rfl
@[simp] theorem nvWrite_slaveAddrWritten (off : Nat) (bytes : List Byte) :
    (nvWrite off bytes s).2.slaveAddrWritten = s.slaveAddrWritten := rfl
@[simp] theorem nvWrite_cfg (off : Nat) (bytes : List Byte) : (nvWrite off bytes s).2.cfg = s.cfg := rfl
@[simp] theorem nvWrite_inputs (off : Nat) (bytes : List Byte) : (nvWrite off bytes s).2.inputs = s.inputs := rfl
@[simp] theorem nvWrite_nvAnswers (off : Nat) (bytes : List Byte) :
    (nvWrite off bytes s).2.nvAnswers = s.nvAnswers.tail := rfl
@[simp] theorem nvWrite_imgAnswers (off : Nat) (bytes : List Byte) :
    (nvWrite off bytes s).2.imgAnswers = s.imgAnswers := rfl
@[simp] theorem nvWrite_nvTrace (off : Nat) (bytes : List Byte) :
    (nvWrite off bytes s).2.nvTrace = s.nvTrace ++ [⟨off, bytes, (nvWrite off bytes s).1⟩] := rfl
@[simp] theorem nvWrite_imgTrace (off : Nat) (bytes : List Byte) :
    (nvWrite off bytes s).2.imgTrace = s.imgTrace := rfl

/-! ### imgWrite -/

@[simp] theorem imgWrite_crcrAcc (off : Nat) (bytes : List Byte) : (imgWrite off bytes s).2.crcrAcc = s.crcrAcc := rfl
@[simp] theorem imgWrite_crcfAcc (off : Nat) (bytes : List Byte) : (imgWrite off bytes s).2.crcfAcc = s.crcfAcc := rfl
@[simp] theorem imgWrite_crcfPoly (off : Nat) (bytes : List Byte) :
    (imgWrite off bytes s).2.crcfPoly = s.crcfPoly := rfl
@[simp] theorem imgWrite_fb (off : Nat) (bytes : List Byte) : (imgWrite off bytes s).2.fb = s.fb := rfl
@[simp] theorem imgWrite_rxCur (off : Nat) (bytes : List Byte) : (imgWrite off bytes s).2.rxCur = s.rxCur := rfl
@[simp] theorem imgWrite_rxLen (off : Nat) (bytes : List Byte) : (imgWrite off bytes s).2.rxLen = s.rxLen := rfl
@[simp] theorem imgWrite_tmrArmed (off : Nat) (bytes : List Byte) :
    (imgWrite off bytes s).2.tmrArmed = s.tmrArmed := rfl
@[simp] theorem imgWrite_tmrCnt (off : Nat) (bytes : List Byte) : (imgWrite off bytes s).2.tmrCnt = s.tmrCnt := rfl
@[simp] theorem imgWrite_t35Reload (off : Nat) (bytes : List Byte) :
    (imgWrite off bytes s).2.t35Reload = s.t35Reload := rfl
@[simp] theorem imgWrite_baud (off : Nat) (bytes : List Byte) : (imgWrite off bytes s).2.baud = s.baud := rfl
@[simp] theorem imgWrite_addrBase (off : Nat) (bytes : List Byte) :
    (imgWrite off bytes s).2.addrBase = s.addrBase := rfl
@[simp] theorem imgWrite_strap (off : Nat) (bytes : List Byte) : (imgWrite off bytes s).2.strap = s.strap := rfl
@[simp] theorem imgWrite_slaveAddr (off : Nat) (bytes : List Byte) :
    (imgWrite off bytes s).2.slaveAddr = s.slaveAddr := rfl
@[simp] theorem imgWrite_de (off : Nat) (bytes : List Byte) : (imgWrite off bytes s).2.de = s.de := rfl
@[simp] theorem imgWrite_tx (off : Nat) (bytes : List Byte) : (imgWrite off bytes s).2.tx = s.tx := rfl
@[simp] theorem imgWrite_wdgDeadline (off : Nat) (bytes : List Byte) :
    (imgWrite off bytes s).2.wdgDeadline = s.wdgDeadline := rfl
@[simp] theorem imgWrite_tickMs (off : Nat) (bytes : List Byte) : (imgWrite off bytes s).2.tickMs = s.tickMs := rfl
@[simp] theorem imgWrite_disc (off : Nat) (bytes : List Byte) : (imgWrite off bytes s).2.disc = s.disc := rfl
@[simp] theorem imgWrite_inp (off : Nat) (bytes : List Byte) : (imgWrite off bytes s).2.inp = s.inp := rfl
@[simp] theorem imgWrite_hold (off : Nat) (bytes : List Byte) : (imgWrite off bytes s).2.hold = s.hold := rfl
@[simp] theorem imgWrite_upgInProgress (off : Nat) (bytes : List Byte) :
    (imgWrite off bytes s).2.upgInProgress = s.upgInProgress := rfl
@[simp] theorem imgWrite_crcrAccWritten (off : Nat) (bytes : List Byte) :
    (imgWrite off bytes s).2.crcrAccWritten = s.crcrAccWritten := rfl
@[simp] theorem imgWrite_crcfAccWritten (off : Nat) (bytes : List Byte) :
    (imgWrite off bytes s).2.crcfAccWritten = s.crcfAccWritten := rfl
@[simp] theorem imgWrite_baudWritten (off : Nat) (bytes : List Byte) :
    (imgWrite off bytes s).2.baudWritten = s.baudWritten := rfl
@[simp] theorem imgWrite_slaveAddrWritten (off : Nat) (bytes : List Byte) :
    (imgWrite off bytes s).2.slaveAddrWritten = s.slaveAddrWritten := rfl
@[simp] theorem imgWrite_cfg (off : Nat) (bytes : List Byte) : (imgWrite off bytes s).2.cfg = s.cfg := rfl
@[simp] theorem imgWrite_inputs (off : Nat) (bytes : List Byte) :
    (imgWrite off bytes s).2.inputs = if (imgWrite off bytes s).1 = .fail then .setUpgInProgress false :: s.inputs else s.inputs := rfl
@[simp] theorem imgWrite_nvAnswers (off : Nat) (bytes : List Byte) :
    (imgWrite off bytes s).2.nvAnswers = s.nvAnswers := rfl
@[simp] theorem imgWrite_imgAnswers (off : Nat) (bytes : List Byte) :
    (imgWrite off bytes s).2.imgAnswers = s.imgAnswers.tail := rfl
@[simp] theorem imgWrite_nvTrace (off : Nat) (bytes : List Byte) : (imgWrite off bytes s).2.nvTrace = s.nvTrace := rfl
@[simp] theorem imgWrite_imgTrace (off : Nat) (bytes : List Byte) :
    (imgWrite off bytes s).2.imgTrace = s.imgTrace ++ [⟨off, bytes, (imgWrite off bytes s).1⟩] := rfl

/-! ### respond, complete, raiseExc: everything but the transmission and the latch is kept -/

@[simp] theorem respond_crcrAcc (addr : Byte) (body : List Byte) : (respond addr body s).crcrAcc = s.crcrAcc := by
  unfold respond; split <;> rfl
@[simp] theorem respond_crcfAcc (addr : Byte) (body : List Byte) : (respond addr body s).crcfAcc = s.crcfAcc := by
  unfold respond; split <;> rfl
@[simp] theorem respond_crcfPoly (addr : Byte) (body : List Byte) : (respond addr body s).crcfPoly = s.crcfPoly := by
  unfold respond; split <;> rfl
@[simp] theorem respond_fb (addr : Byte) (body : List Byte) : (respond addr body s).fb = s.fb := by
  unfold respond; split <;> rfl
@[simp] theorem respond_rxCur (addr : Byte) (body : List Byte) : (respond addr body s).rxCur = s.rxCur := by
  unfold respond; split <;> rfl
@[simp] theorem respond_rxLen (addr : Byte) (body : List Byte) : (respond addr body s).rxLen = s.rxLen := by
  unfold respond; split <;> rfl
@[simp] theorem respond_tmrArmed (addr : Byte) (body : List Byte) : (respond addr body s).tmrArmed = s.tmrArmed := by
  unfold respond; split <;> rfl
@[simp] theorem respond_tmrCnt (addr : Byte) (body : List Byte) : (respond addr body s).tmrCnt = s.tmrCnt := by
  unfold respond; split <;> rfl
@[simp] theorem respond_t35Reload (addr : Byte) (body : List Byte) : (respond addr body s).t35Reload = s.t35Reload := by
  unfold respond; split <;> rfl
@[simp] theorem respond_baud (addr : Byte) (body : List Byte) : (respond addr body s).baud = s.baud := by
  unfold respond; split <;> rfl
@[simp] theorem respond_addrBase (addr : Byte) (body : List Byte) : (respond addr body s).addrBase = s.addrBase := by
  unfold respond; split <;> rfl
@[simp] theorem respond_strap (addr : Byte) (body : List Byte) : (respond addr body s).strap = s.strap := by
  unfold respond; split <;> rfl
@[simp] theorem respond_slaveAddr (addr : Byte) (body : List Byte) : (respond addr body s).slaveAddr = s.slaveAddr := by
  unfold respond; split <;> rfl
@[simp] theorem respond_wdgDeadline (addr : Byte) (body : List Byte) : (respond addr body s).wdgDeadline = s.wdgDeadline := by
  unfold respond; split <;> rfl
@[simp] theorem respond_tickMs (addr : Byte) (body : List Byte) : (respond addr body s).tickMs = s.tickMs := by
  unfold respond; split <;> rfl
@[simp] theorem respond_disc (addr : Byte) (body : List Byte) : (respond addr body s).disc = s.disc := by
  unfold respond; split <;> rfl
@[simp] theorem respond_inp (addr : Byte) (body : List Byte) : (respond addr body s).inp = s.inp := by
  unfold respond; split <;> rfl
@[simp] theorem respond_hold (addr : Byte) (body : List Byte) : (respond addr body s).hold = s.hold := by
  unfold respond; split <;> rfl
@[simp] theorem respond_upgInProgress (addr : Byte) (body : List Byte) : (respond addr body s).upgInProgress = s.upgInProgress := by
  unfold respond; split <;> rfl
@[simp] theorem respond_crcrAccWritten (addr : Byte) (body : List Byte) : (respond addr body s).crcrAccWritten = s.crcrAccWritten := by
  unfold respond; split <;> rfl
@[simp] theorem respond_crcfAccWritten (addr : Byte) (body : List Byte) : (respond addr body s).crcfAccWritten = s.crcfAccWritten := by
  unfold respond; split <;> rfl
@[simp] theorem respond_baudWritten (addr : Byte) (body : List Byte) : (respond addr body s).baudWritten = s.baudWritten := by
  unfold respond; split <;> rfl
@[simp] theorem respond_slaveAddrWritten (addr : Byte) (body : List Byte) : (respond addr body s).slaveAddrWritten = s.slaveAddrWritten := by
  unfold respond; split <;> rfl
@[simp] theorem respond_cfg (addr : Byte) (body : List Byte) : (respond addr body s).cfg = s.cfg := by
  unfold respond; split <;> rfl
@[simp] theorem respond_inputs (addr : Byte) (body : List Byte) : (respond addr body s).inputs = s.inputs := by
  unfold respond; split <;> rfl
@[simp] theorem respond_nvAnswers (addr : Byte) (body : List Byte) : (respond addr body s).nvAnswers = s.nvAnswers := by
  unfold respond; split <;> rfl
@[simp] theorem respond_imgAnswers (addr : Byte) (body : List Byte) : (respond addr body s).imgAnswers = s.imgAnswers := by
  unfold respond; split <;> rfl
@[simp] theorem respond_nvTrace (addr : Byte) (body : List Byte) : (respond addr body s).nvTrace = s.nvTrace := by
  unfold respond; split <;> rfl
@[simp] theorem respond_imgTrace (addr : Byte) (body : List Byte) : (respond addr body s).imgTrace = s.imgTrace := by
  unfold respond; split <;> rfl

@[simp] theorem complete_crcrAcc (addr : Byte) (body : List Byte) :
    (complete addr body s).crcrAcc = s.crcrAcc := by simp [complete]
@[simp] theorem complete_crcfAcc (addr : Byte) (body : List Byte) :
    (complete addr body s).crcfAcc = s.crcfAcc := by simp [complete]
@[simp] theorem complete_crcfPoly (addr : Byte) (body : List Byte) :
    (complete addr body s).crcfPoly = s.crcfPoly := by simp [complete]
@[simp] theorem complete_fb (addr : Byte) (body : List Byte) : (complete addr body s).fb = s.fb := by simp [complete]
@[simp] theorem complete_rxCur (addr : Byte) (body : List Byte) :
    (complete addr body s).rxCur = 0 := by simp [complete]
@[simp] theorem complete_rxLen (addr : Byte) (body : List Byte) :
    (complete addr body s).rxLen = 0 := by simp [complete]
@[simp] theorem complete_tmrArmed (addr : Byte) (body : List Byte) :
    (complete addr body s).tmrArmed = s.tmrArmed := by simp [complete]
@[simp] theorem complete_tmrCnt (addr : Byte) (body : List Byte) :
    (complete addr body s).tmrCnt = s.tmrCnt := by simp [complete]
@[simp] theorem complete_t35Reload (addr : Byte) (body : List Byte) :
    (complete addr body s).t35Reload = s.t35Reload := by simp [complete]
@[simp] theorem complete_baud (addr : Byte) (body : List Byte) :
    (complete addr body s).baud = s.baud := by simp [complete]
@[simp] theorem complete_addrBase (addr : Byte) (body : List Byte) :
    (complete addr body s).addrBase = s.addrBase := by simp [complete]
@[simp] theorem complete_strap (addr : Byte) (body : List Byte) :
    (complete addr body s).strap = s.strap := by simp [complete]
@[simp] theorem complete_slaveAddr (addr : Byte) (body : List Byte) :
    (complete addr body s).slaveAddr = s.slaveAddr := by simp [complete]
@[simp] theorem complete_wdgDeadline (addr : Byte) (body : List Byte) :
    (complete addr body s).wdgDeadline = s.wdgDeadline := by simp [complete]
@[simp] theorem complete_tickMs (addr : Byte) (body : List Byte) :
    (complete addr body s).tickMs = s.tickMs := by simp [complete]
@[simp] theorem complete_disc (addr : Byte) (body : List Byte) :
    (complete addr body s).disc = s.disc := by simp [complete]
@[simp] theorem complete_inp (addr : Byte) (body : List Byte) :
    (complete addr body s).inp = s.inp := by simp [complete]
@[simp] theorem complete_hold (addr : Byte) (body : List Byte) :
    (complete addr body s).hold = s.hold := by simp [complete]
@[simp] theorem complete_upgInProgress (addr : Byte) (body : List Byte) :
    (complete addr body s).upgInProgress = s.upgInProgress := by simp [complete]
@[simp] theorem complete_crcrAccWritten (addr : Byte) (body : List Byte) :
    (complete addr body s).crcrAccWritten = s.crcrAccWritten := by simp [complete]
@[simp] theorem complete_crcfAccWritten (addr : Byte) (body : List Byte) :
    (complete addr body s).crcfAccWritten = s.crcfAccWritten := by simp [complete]
@[simp] theorem complete_baudWritten (addr : Byte) (body : List Byte) :
    (complete addr body s).baudWritten = s.baudWritten := by simp [complete]
@[simp] theorem complete_slaveAddrWritten (addr : Byte) (body : List Byte) :
    (complete addr body s).slaveAddrWritten = s.slaveAddrWritten := by simp [complete]
@[simp] theorem complete_cfg (addr : Byte) (body : List Byte) :
    (complete addr body s).cfg = s.cfg := by simp [complete]
@[simp] theorem complete_inputs (addr : Byte) (body : List Byte) :
    (complete addr body s).inputs = s.inputs := by simp [complete]
@[simp] theorem complete_nvAnswers (addr : Byte) (body : List Byte) :
    (complete addr body s).nvAnswers = s.nvAnswers := by simp [complete]
@[simp] theorem complete_imgAnswers (addr : Byte) (body : List Byte) :
    (complete addr body s).imgAnswers = s.imgAnswers := by simp [complete]
@[simp] theorem complete_nvTrace (addr : Byte) (body : List Byte) :
    (complete addr body s).nvTrace = s.nvTrace := by simp [complete]
@[simp] theorem complete_imgTrace (addr : Byte) (body : List Byte) :
    (complete addr body s).imgTrace = s.imgTrace := by simp [complete]

@[simp] theorem raiseExc_crcrAcc (addr fc : Byte) (code : ExcCode) :
    (raiseExc addr fc code s).crcrAcc = s.crcrAcc := by simp [raiseExc]
@[simp] theorem raiseExc_crcfAcc (addr fc : Byte) (code : ExcCode) :
    (raiseExc addr fc code s).crcfAcc = s.crcfAcc := by simp [raiseExc]
@[simp] theorem raiseExc_crcfPoly (addr fc : Byte) (code : ExcCode) :
    (raiseExc addr fc code s).crcfPoly = s.crcfPoly := by simp [raiseExc]
@[simp] theorem raiseExc_fb (addr fc : Byte) (code : ExcCode) :
    (raiseExc addr fc code s).fb = s.fb := by simp [raiseExc]
@[simp] theorem raiseExc_rxCur (addr fc : Byte) (code : ExcCode) :
    (raiseExc addr fc code s).rxCur = 0 := by simp [raiseExc]
@[simp] theorem raiseExc_rxLen (addr fc : Byte) (code : ExcCode) :
    (raiseExc addr fc code s).rxLen = 0 := by simp [raiseExc]
@[simp] theorem raiseExc_tmrArmed (addr fc : Byte) (code : ExcCode) :
    (raiseExc addr fc code s).tmrArmed = s.tmrArmed := by simp [raiseExc]
@[simp] theorem raiseExc_tmrCnt (addr fc : Byte) (code : ExcCode) :
    (raiseExc addr fc code s).tmrCnt = s.tmrCnt := by simp [raiseExc]
@[simp] theorem raiseExc_t35Reload (addr fc : Byte) (code : ExcCode) :
    (raiseExc addr fc code s).t35Reload = s.t35Reload := by simp [raiseExc]
@[simp] theorem raiseExc_baud (addr fc : Byte) (code : ExcCode) :
    (raiseExc addr fc code s).baud = s.baud := by simp [raiseExc]
@[simp] theorem raiseExc_addrBase (addr fc : Byte) (code : ExcCode) :
    (raiseExc addr fc code s).addrBase = s.addrBase := by simp [raiseExc]
@[simp] theorem raiseExc_strap (addr fc : Byte) (code : ExcCode) :
    (raiseExc addr fc code s).strap = s.strap := by simp [raiseExc]
@[simp] theorem raiseExc_slaveAddr (addr fc : Byte) (code : ExcCode) :
    (raiseExc addr fc code s).slaveAddr = s.slaveAddr := by simp [raiseExc]
@[simp] theorem raiseExc_wdgDeadline (addr fc : Byte) (code : ExcCode) :
    (raiseExc addr fc code s).wdgDeadline = s.wdgDeadline := by simp [raiseExc]
@[simp] theorem raiseExc_tickMs (addr fc : Byte) (code : ExcCode) :
    (raiseExc addr fc code s).tickMs = s.tickMs := by simp [raiseExc]
@[simp] theorem raiseExc_disc (addr fc : Byte) (code : ExcCode) :
    (raiseExc addr fc code s).disc = s.disc := by simp [raiseExc]
@[simp] theorem raiseExc_inp (addr fc : Byte) (code : ExcCode) :
    (raiseExc addr fc code s).inp = s.inp := by simp [raiseExc]
@[simp] theorem raiseExc_hold (addr fc : Byte) (code : ExcCode) :
    (raiseExc addr fc code s).hold = s.hold := by simp [raiseExc]
@[simp] theorem raiseExc_upgInProgress (addr fc : Byte) (code : ExcCode) :
    (raiseExc addr fc code s).upgInProgress = s.upgInProgress := by simp [raiseExc]
@[simp] theorem raiseExc_crcrAccWritten (addr fc : Byte) (code : ExcCode) :
    (raiseExc addr fc code s).crcrAccWritten = s.crcrAccWritten := by simp [raiseExc]
@[simp] theorem raiseExc_crcfAccWritten (addr fc : Byte) (code : ExcCode) :
    (raiseExc addr fc code s).crcfAccWritten = s.crcfAccWritten := by simp [raiseExc]
@[simp] theorem raiseExc_baudWritten (addr fc : Byte) (code : ExcCode) :
    (raiseExc addr fc code s).baudWritten = s.baudWritten := by simp [raiseExc]
@[simp] theorem raiseExc_slaveAddrWritten (addr fc : Byte) (code : ExcCode) :
    (raiseExc addr fc code s).slaveAddrWritten = s.slaveAddrWritten := by simp [raiseExc]
@[simp] theorem raiseExc_cfg (addr fc : Byte) (code : ExcCode) :
    (raiseExc addr fc code s).cfg = s.cfg := by simp [raiseExc]
@[simp] theorem raiseExc_inputs (addr fc : Byte) (code : ExcCode) :
    (raiseExc addr fc code s).inputs = s.inputs := by simp [raiseExc]
@[simp] theorem raiseExc_nvAnswers (addr fc : Byte) (code : ExcCode) :
    (raiseExc addr fc code s).nvAnswers = s.nvAnswers := by simp [raiseExc]
@[simp] theorem raiseExc_imgAnswers (addr fc : Byte) (code : ExcCode) :
    (raiseExc addr fc code s).imgAnswers = s.imgAnswers := by simp [raiseExc]
@[simp] theorem raiseExc_nvTrace (addr fc : Byte) (code : ExcCode) :
    (raiseExc addr fc code s).nvTrace = s.nvTrace := by simp [raiseExc]
@[simp] theorem raiseExc_imgTrace (addr fc : Byte) (code : ExcCode) :
    (raiseExc addr fc code s).imgTrace = s.imgTrace := by simp [raiseExc]

end Sys2Proof.Machine
end

