-- ==== Sys2Proof/Laws/Bank.lean ====
section
/-! SUPPORT. The laws of the banks: a run of reads, `set_holding`, and a run of writes. -/

namespace Sys2Proof.Machine

/-- A run of reads inside the bank gives the cells of the range. -/
theorem readCells_eq {α : Type} (bank : List α) (a n : Nat) (h : a + n ≤ bank.length) :
    readCells bank a n = some ((bank.drop a).take n) := by
  induction n generalizing a with
  | zero => simp [readCells]
  | succ n ih =>
    have ha : a < bank.length := by omega
    rw [readCells, List.getElem?_eq_getElem ha, ih (a + 1) (by omega), List.drop_eq_getElem_cons ha,
      List.take_succ_cons]

theorem chkRead_eq_none (start qty size : Nat) :
    chkRead start qty size = none ↔ 1 ≤ qty ∧ start + qty ≤ size := by
  unfold chkRead
  split
  · simp; omega
  · split
    · simp; omega
    · split <;> simp <;> omega

theorem chkWrite_eq_none (start qty bc size : Nat) :
    chkWrite start qty bc size = none ↔ start + qty ≤ size ∧ bc = 2 * qty := by
  unfold chkWrite
  split
  · simp; omega
  · split <;> simp <;> omega

/-- A request's data is half as many register values as bytes. -/
theorem registerValues_length (data : List Byte) : (registerValues data).length = data.length / 2 := by
  induction data using registerValues.induct with
  | case1 h l rest ih => simp only [registerValues, List.length_cons, ih]; omega
  | case2 data hne =>
    match data, hne with
    | [], _ => rfl
    | [_], _ => simp [registerValues]
    | h :: l :: rest, hne => exact absurd rfl (hne h l rest)

/-- The state after a persistence call and before the cell is updated. -/
def persisted (i : Nat) (v : U16) (s : State) : State := (nvWrite (holdOffset s.cfg i) (be16Bytes v) s).2

/-- The answer that call gets. -/
def persistAnswer (s : State) : PortAnswer := nextAnswer s.nvAnswers Config.freeNvAnswer s.nvTrace.length

/-- Everything `set_holding` can do. -/
theorem setHolding_cases (i : Nat) (v : U16) (s : State) :
    (s.hold.length ≤ i ∧ setHolding i v s = none) ∨
    (s.hold[i]? = some v ∧ setHolding i v s = some (.ok, s)) ∨
    (∃ old, s.hold[i]? = some old ∧ old ≠ v ∧ persistAnswer s = .fail ∧
      setHolding i v s = some (.fail, persisted i v s)) ∨
    (∃ old, s.hold[i]? = some old ∧ old ≠ v ∧ persistAnswer s = .ok ∧
      setHolding i v s = some (.ok, storeHolding i v (persisted i v s))) := by
  unfold setHolding
  cases h : s.hold[i]? with
  | none => exact .inl ⟨by simpa using h, rfl⟩
  | some old =>
    by_cases hv : old = v
    · exact .inr (.inl ⟨by simp [hv], by simp [hv]⟩)
    · simp only [hv, if_false]
      cases ha : persistAnswer s with
      | ok => exact .inr (.inr (.inr ⟨old, rfl, hv, rfl, by simp [nvWrite, persisted, persistAnswer] at ha ⊢; simp [ha]⟩))
      | fail => exact .inr (.inr (.inl ⟨old, rfl, hv, rfl, by simp [nvWrite, persisted, persistAnswer] at ha ⊢; simp [ha]⟩))

/-- What a write to the holding bank leaves unchanged: all but `HOLD` and the persistence port. -/
structure KeptByHolding (s t : State) : Prop where
  crcrAcc : t.crcrAcc = s.crcrAcc
  crcfAcc : t.crcfAcc = s.crcfAcc
  crcfPoly : t.crcfPoly = s.crcfPoly
  fb : t.fb = s.fb
  rxCur : t.rxCur = s.rxCur
  rxLen : t.rxLen = s.rxLen
  tmrArmed : t.tmrArmed = s.tmrArmed
  tmrCnt : t.tmrCnt = s.tmrCnt
  t35Reload : t.t35Reload = s.t35Reload
  baud : t.baud = s.baud
  addrBase : t.addrBase = s.addrBase
  strap : t.strap = s.strap
  slaveAddr : t.slaveAddr = s.slaveAddr
  de : t.de = s.de
  tx : t.tx = s.tx
  wdgDeadline : t.wdgDeadline = s.wdgDeadline
  tickMs : t.tickMs = s.tickMs
  disc : t.disc = s.disc
  inp : t.inp = s.inp
  upgInProgress : t.upgInProgress = s.upgInProgress
  crcrAccWritten : t.crcrAccWritten = s.crcrAccWritten
  crcfAccWritten : t.crcfAccWritten = s.crcfAccWritten
  baudWritten : t.baudWritten = s.baudWritten
  slaveAddrWritten : t.slaveAddrWritten = s.slaveAddrWritten
  cfg : t.cfg = s.cfg
  inputs : t.inputs = s.inputs
  imgAnswers : t.imgAnswers = s.imgAnswers
  imgTrace : t.imgTrace = s.imgTrace
  hold_length : t.hold.length = s.hold.length

theorem KeptByHolding.rfl' (s : State) : KeptByHolding s s := by constructor <;> rfl

theorem KeptByHolding.trans' {s t u : State} (h : KeptByHolding s t) (h' : KeptByHolding t u) : KeptByHolding s u := by
  constructor
  all_goals first
    | exact h'.crcrAcc.trans h.crcrAcc
    | exact h'.crcfAcc.trans h.crcfAcc
    | exact h'.crcfPoly.trans h.crcfPoly
    | exact h'.fb.trans h.fb
    | exact h'.rxCur.trans h.rxCur
    | exact h'.rxLen.trans h.rxLen
    | exact h'.tmrArmed.trans h.tmrArmed
    | exact h'.tmrCnt.trans h.tmrCnt
    | exact h'.t35Reload.trans h.t35Reload
    | exact h'.baud.trans h.baud
    | exact h'.addrBase.trans h.addrBase
    | exact h'.strap.trans h.strap
    | exact h'.slaveAddr.trans h.slaveAddr
    | exact h'.de.trans h.de
    | exact h'.tx.trans h.tx
    | exact h'.wdgDeadline.trans h.wdgDeadline
    | exact h'.tickMs.trans h.tickMs
    | exact h'.disc.trans h.disc
    | exact h'.inp.trans h.inp
    | exact h'.upgInProgress.trans h.upgInProgress
    | exact h'.crcrAccWritten.trans h.crcrAccWritten
    | exact h'.crcfAccWritten.trans h.crcfAccWritten
    | exact h'.baudWritten.trans h.baudWritten
    | exact h'.slaveAddrWritten.trans h.slaveAddrWritten
    | exact h'.cfg.trans h.cfg
    | exact h'.inputs.trans h.inputs
    | exact h'.imgAnswers.trans h.imgAnswers
    | exact h'.imgTrace.trans h.imgTrace
    | exact h'.hold_length.trans h.hold_length

theorem persisted_kept (i : Nat) (v : U16) (s : State) : KeptByHolding s (persisted i v s) := by
  constructor <;> rfl

theorem storeHolding_kept (i : Nat) (v : U16) (s : State) : KeptByHolding s (storeHolding i v s) := by
  constructor <;> simp

/-- `set_holding` keeps all but `HOLD` and the persistence port, and the size of `HOLD`. -/
theorem setHolding_kept {i : Nat} {v : U16} {s t : State} {ans : PortAnswer}
    (h : setHolding i v s = some (ans, t)) : KeptByHolding s t := by
  obtain ⟨-, he⟩ | ⟨-, he⟩ | ⟨_, -, -, -, he⟩ | ⟨_, -, -, -, he⟩ := setHolding_cases i v s
  · simp [he] at h
  · obtain ⟨-, rfl⟩ := by simpa [he] using h
    exact .rfl' s
  · obtain ⟨-, rfl⟩ := by simpa [he] using h
    exact persisted_kept i v s
  · obtain ⟨-, rfl⟩ := by simpa [he] using h
    exact (persisted_kept i v s).trans' (storeHolding_kept i v _)

/-- A run of writes keeps all but `HOLD` and the persistence port, and the size of `HOLD`. -/
theorem setHoldings_kept {a : Nat} {vals : List U16} {s t : State} {ans : PortAnswer}
    (h : setHoldings a vals s = some (ans, t)) : KeptByHolding s t := by
  induction vals generalizing a s with
  | nil =>
    obtain ⟨-, rfl⟩ := by simpa [setHoldings] using h
    exact .rfl' s
  | cons v vs ih =>
    unfold setHoldings at h
    cases hv : setHolding a v s with
    | none => simp [hv] at h
    | some p =>
      obtain ⟨ans', s'⟩ := p
      cases ans' with
      | fail =>
        obtain ⟨-, rfl⟩ := by simpa [hv] using h
        exact setHolding_kept hv
      | ok =>
        simp only [hv] at h
        exact (setHolding_kept hv).trans' (ih h)

/-- A run of writes inside the bank always has an answer. -/
theorem setHoldings_isSome (a : Nat) (vals : List U16) (s : State) (h : a + vals.length ≤ s.hold.length) :
    ∃ ans t, setHoldings a vals s = some (ans, t) := by
  induction vals generalizing a s with
  | nil => exact ⟨.ok, s, rfl⟩
  | cons v vs ih =>
    simp only [List.length_cons] at h
    unfold setHoldings
    cases hv : setHolding a v s with
    | none =>
      obtain ⟨hle, -⟩ | ⟨-, he⟩ | ⟨_, -, -, -, he⟩ | ⟨_, -, -, -, he⟩ := setHolding_cases a v s
      · omega
      all_goals simp [he] at hv
    | some p =>
      obtain ⟨ans', s'⟩ := p
      cases ans' with
      | fail => exact ⟨.fail, s', rfl⟩
      | ok => exact ih (a + 1) s' (by have := (setHolding_kept hv).hold_length; omega)

end Sys2Proof.Machine
end

