-- ==== Sys2Proof/Laws/Decode.lean ====
section
/-! SUPPORT. The laws of fields, frames and the decoder. -/

namespace Sys2Proof

theorem be16_getLsbD (h l : Byte) (i : Nat) :
    (be16 h l).getLsbD i = if i < 8 then l.getLsbD i else h.getLsbD (i - 8) :=
  BitVec.getLsbD_append

@[simp] theorem hi8_getLsbD (v : U16) (i : Nat) : (hi8 v).getLsbD i = (decide (i < 8) && v.getLsbD (8 + i)) := by
  simp [hi8]

@[simp] theorem lo8_getLsbD (v : U16) (i : Nat) : (lo8 v).getLsbD i = (decide (i < 8) && v.getLsbD i) := by
  simp [lo8]

@[simp] theorem be16_hi8_lo8 (v : U16) : be16 (hi8 v) (lo8 v) = v := by
  refine BitVec.eq_of_getLsbD_eq fun i hi => ?_
  rw [be16_getLsbD]
  split
  · rw [lo8_getLsbD]; simp [*]
  · rw [hi8_getLsbD, show 8 + (i - 8) = i by omega]
    simp; omega

@[simp] theorem hi8_be16 (h l : Byte) : hi8 (be16 h l) = h := by
  refine BitVec.eq_of_getLsbD_eq fun i hi => ?_
  rw [hi8_getLsbD, be16_getLsbD]
  simp [hi]

@[simp] theorem lo8_be16 (h l : Byte) : lo8 (be16 h l) = l := by
  refine BitVec.eq_of_getLsbD_eq fun i hi => ?_
  rw [lo8_getLsbD, be16_getLsbD]
  simp [hi]

theorem be16_toNat (h l : Byte) : (be16 h l).toNat = 256 * h.toNat + l.toNat := by
  have e : (be16 h l).toNat = h.toNat <<< 8 ||| l.toNat := BitVec.toNat_append h l
  rw [e, Nat.shiftLeft_eq, Nat.mul_comm, ← Nat.two_pow_add_eq_or_of_lt l.isLt]

@[simp] theorem withCrc_length (body : List Byte) : (withCrc body).length = body.length + 2 := by simp [withCrc]

/-- A frame built with its CRC passes the check. -/
theorem crcOk_withCrc (body : List Byte) : Machine.crcOk (withCrc body) = true := by
  simp [Machine.crcOk, withCrc, byteAt]

/-- What the parser reads is a request of the second level. -/
theorem parseRequest_isRequest (frame : List Byte) : (parseRequest frame).isRequest = true := by
  unfold parseRequest
  dsimp only
  split
  all_goals first | rfl | (split <;> rfl)

/-- A frame never decodes to an operation of the first level. -/
theorem decodeRequest_isRequest {frame : List Byte} {i : Instr} (h : decodeRequest frame = .ok i) :
    i.isRequest = true := by
  unfold decodeRequest at h
  split at h
  · cases h
  · split at h
    · cases h; exact parseRequest_isRequest frame
    · split at h
      · cases h
      · cases h; exact parseRequest_isRequest frame

/-- The dispatcher runs a request's meaning. -/
theorem Machine.execRequest_eq_exec {i : Instr} (h : i.isRequest = true) (s : Machine.State) :
    Machine.execRequest i s = Machine.exec i s := by
  cases i <;> first | rfl | cases h

end Sys2Proof
end

