-- ==== Sys2Proof/Laws/Memory.lean ====
section
/-! SUPPORT. The laws of the frame buffer's memory: read after write, the canonical form, and a run of reads. -/

namespace Sys2Proof.Machine

@[simp] theorem Memory.read_write_same (m : Memory) (a : Nat) (b : Byte) : (m.write a b).read a = some b := by
  induction m with
  | nil => simp [Memory.write, Memory.read]
  | cons c rest ih =>
    obtain ⟨a', b'⟩ := c
    unfold Memory.write
    split
    · simp [Memory.read]
    · split
      · simp [Memory.read]
      · simp [Memory.read, *]

theorem Memory.read_write_other (m : Memory) {a a' : Nat} (b : Byte) (h : a' ≠ a) :
    (m.write a b).read a' = m.read a' := by
  induction m with
  | nil => simp [Memory.write, Memory.read, h]
  | cons c rest ih =>
    obtain ⟨a₁, b₁⟩ := c
    unfold Memory.write
    split
    · simp [Memory.read, h]
    · split
      · subst_vars
        simp [Memory.read, h]
      · simp [Memory.read, ih]

theorem Memory.read_write (m : Memory) (a a' : Nat) (b : Byte) :
    (m.write a b).read a' = if a' = a then some b else m.read a' := by
  split
  · subst_vars; simp
  · exact Memory.read_write_other m b ‹_›

theorem Memory.risesAbove_write (m : Memory) (a₀ a : Nat) (b : Byte) (h : a₀ < a) (hm : Memory.risesAbove a₀ m = true) :
    Memory.risesAbove a₀ (m.write a b) = true := by
  induction m generalizing a₀ with
  | nil => simp [Memory.write, Memory.risesAbove, h]
  | cons c rest ih =>
    obtain ⟨a₁, b₁⟩ := c
    simp only [Memory.risesAbove, Bool.and_eq_true, decide_eq_true_eq] at hm
    unfold Memory.write
    split
    · simp_all [Memory.risesAbove]
    · split
      · subst_vars
        simp_all [Memory.risesAbove]
      · simp only [Memory.risesAbove, Bool.and_eq_true, decide_eq_true_eq]
        exact ⟨hm.1, ih a₁ (by omega) hm.2⟩

/-- Every write keeps the canonical form. -/
theorem Memory.wf_write (m : Memory) (a : Nat) (b : Byte) (h : m.wf = true) : (m.write a b).wf = true := by
  cases m with
  | nil => simp [Memory.write, Memory.wf, Memory.risesAbove]
  | cons c rest =>
    obtain ⟨a₁, b₁⟩ := c
    unfold Memory.write
    split
    · simp_all [Memory.wf, Memory.risesAbove]
    · split
      · subst_vars
        simpa [Memory.wf] using h
      · simp only [Memory.wf] at h ⊢
        exact Memory.risesAbove_write rest a₁ a b (by omega) h

theorem Memory.wf_nil : Memory.wf [] = true := rfl

/-! ### Reads of the frame buffer -/

/-- A read of one cell is a byte that is listed below the capacity. -/
theorem frameByte_eq_ok (s : State) (a : Nat) (b : Byte) :
    frameByte s a = .ok b ↔ a < s.cfg.bufCap ∧ s.fb.read a = some b := by
  unfold frameByte
  split
  · cases h : s.fb.read a <;> simp_all
  · simp_all

/-- A run of reads depends on the buffer and the capacity only. -/
theorem frameBytes_congr {s t : State} (hfb : t.fb = s.fb) (hcfg : t.cfg = s.cfg) (a n : Nat) :
    frameBytes t a n = frameBytes s a n := by
  induction n generalizing a with
  | zero => rfl
  | succ n ih => simp [frameBytes, frameByte, hfb, hcfg, ih]

/-- A run of reads succeeds if every cell is listed below the capacity, and gives as many bytes as asked. -/
theorem frameBytes_ok (s : State) (a n : Nat)
    (h : ∀ i, a ≤ i → i < a + n → i < s.cfg.bufCap ∧ (s.fb.read i).isSome = true) :
    ∃ bs, frameBytes s a n = .ok bs ∧ bs.length = n := by
  induction n generalizing a with
  | zero => exact ⟨[], rfl, rfl⟩
  | succ n ih =>
    obtain ⟨hcap, hsome⟩ := h a (by omega) (by omega)
    obtain ⟨b, hb⟩ := Option.isSome_iff_exists.mp hsome
    obtain ⟨bs, hbs, hlen⟩ := ih (a + 1) fun i hi hi' => h i (by omega) (by omega)
    exact ⟨b :: bs, by simp [frameBytes, (frameByte_eq_ok s a b).mpr ⟨hcap, hb⟩, hbs], by simp [hlen]⟩

/-- The bytes a run of reads gives are those of the cells. -/
theorem frameBytes_get (s : State) (a n : Nat) (bs : List Byte) (h : frameBytes s a n = .ok bs) :
    bs.length = n ∧ ∀ i, i < n → s.fb.read (a + i) = bs[i]? := by
  induction n generalizing a bs with
  | zero => simp_all [frameBytes]
  | succ n ih =>
    unfold frameBytes at h
    cases hb : frameByte s a with
    | error f => simp [hb] at h
    | ok b =>
      simp only [hb] at h
      cases hbs : frameBytes s (a + 1) n with
      | error f => simp [hbs] at h
      | ok bs' =>
        simp only [hbs, Except.ok.injEq] at h
        subst h
        obtain ⟨hlen, hget⟩ := ih (a + 1) bs' hbs
        refine ⟨by simp [hlen], fun i hi => ?_⟩
        cases i with
        | zero => simpa using ((frameByte_eq_ok s a b).mp hb).2
        | succ i => simpa [Nat.add_assoc, Nat.add_comm 1 i] using hget i (by omega)

end Sys2Proof.Machine
end

