-- ==== Sys2Proof/Laws/Invariant.lean ====
section
/-! SUPPORT. The invariant of Safety.lean as a check that can be evaluated on a given state. -/

namespace Sys2Proof.Machine

/-- Every listed cell lies below the capacity. -/
def Memory.below (cap : Nat) (m : Memory) : Bool := m.all fun c => decide (c.1 < cap)

theorem Memory.lt_of_below {cap : Nat} {m : Memory} (h : m.below cap = true) (a : Nat)
    (ha : (m.read a).isSome = true) : a < cap := by
  induction m with
  | nil => simp [Memory.read] at ha
  | cons c rest ih =>
    obtain ⟨a', b⟩ := c
    simp only [Memory.below, List.all_cons, Bool.and_eq_true, decide_eq_true_eq] at h
    unfold Memory.read at ha
    split at ha
    · omega
    · exact ih h.2 ha

/-- The clauses of `Inv`, each as a test. -/
def invCheck (s : State) : Bool :=
  s.fb.wf && s.fb.below s.cfg.bufCap && decide (s.rxCur ≤ s.cfg.bufCap)
    && (List.range s.rxCur).all (fun a => (s.fb.read a).isSome)
    && (s.rxLen == 0 || (!s.tmrArmed && s.rxLen == s.rxCur && decide (Config.minFrame ≤ s.rxLen)
      && decide (s.rxLen ≤ s.cfg.bufCap)))
    && (s.rxLen != 0 || s.tmrArmed || s.rxCur == 0)
    && (!s.tmrArmed || (decide (1 ≤ s.tmrCnt) && decide (1 ≤ s.rxCur)))
    && (!s.baudWritten || decide (1 ≤ s.t35Reload))
    && !s.de && decide (s.tickMs < 2 ^ s.cfg.tickW) && decide (s.wdgDeadline < 2 ^ s.cfg.tickW)

/-- A state that passes the check meets the invariant. -/
theorem inv_of_check {s : State} (h : invCheck s = true) : Inv s := by
  simp only [invCheck, Bool.and_eq_true, Bool.or_eq_true, Bool.not_eq_true', decide_eq_true_eq, beq_iff_eq,
    bne_iff_ne, List.all_eq_true, List.mem_range] at h
  obtain ⟨⟨⟨⟨⟨⟨⟨⟨⟨⟨wf, below⟩, cur⟩, written⟩, latched⟩, idle⟩, armed⟩, reload⟩, de⟩, tick⟩, deadline⟩ := h
  refine ⟨⟨wf, fun a => Memory.lt_of_below below a, cur, written, ?_, ?_, ?_, ?_, ?_⟩, ⟨de, tick, deadline⟩⟩
  · exact fun hl => (latched.resolve_left hl).1.1.1
  · intro hl
    have := latched.resolve_left hl
    exact ⟨this.1.1.2, this.1.2, this.2⟩
  · intro hl ha
    simpa [hl, ha] using idle
  · intro ha
    simpa [ha] using armed
  · intro hb
    simpa [hb] using reload

end Sys2Proof.Machine
end

