-- ==== Sys2Proof/Laws/PerInstr.lean ====
section
/-! SUPPORT. Statements made for every instruction, one lemma a constructor. -/

namespace Sys2Proof.Laws.CodeHead

/-- The head of an instruction's code: an operation of the first level is a word (R112); a request is a frame whose
byte 0 is its address and byte 1 its function (R114, R116, R117), and a frame never differs from its body with the CRC
behind it (R115). -/
def Statement (i : Instr) : Prop :=
  if i.isRequest then
    ∃ rest, encode i = .frame (withCrc (requestAddr i :: requestFunction i :: rest))
  else ∃ w, encode i = .operation w

theorem crcrSeed (s : U16) : Statement (.crcrSeed s) := ⟨_, rfl⟩

theorem crcrByte (b : Byte) : Statement (.crcrByte b) := ⟨_, rfl⟩

theorem crcfSeed (s : U16) : Statement (.crcfSeed s) := ⟨_, rfl⟩

theorem crcfByte (b : Byte) : Statement (.crcfByte b) := ⟨_, rfl⟩

theorem crcfPoly (p : U16) : Statement (.crcfPoly p) := ⟨_, rfl⟩

theorem rxByte (b : Byte) : Statement (.rxByte b) := ⟨_, rfl⟩

theorem tmrTick : Statement .tmrTick := ⟨_, rfl⟩

theorem msTick : Statement .msTick := ⟨_, rfl⟩

theorem cfgBaud (r : Nat) : Statement (.cfgBaud r) := ⟨_, rfl⟩

theorem cfgAddr : Statement .cfgAddr := ⟨_, rfl⟩

theorem loopIter : Statement .loopIter := ⟨_, rfl⟩

theorem reservedB : Statement .reservedB := ⟨_, rfl⟩

theorem reservedC : Statement .reservedC := ⟨_, rfl⟩

theorem reservedD : Statement .reservedD := ⟨_, rfl⟩

theorem reservedE : Statement .reservedE := ⟨_, rfl⟩

theorem reservedF : Statement .reservedF := ⟨_, rfl⟩

theorem rdi (a : Byte) (b : U16) (c : U16) : Statement (.rdi a b c) := ⟨_, rfl⟩

theorem rir (a : Byte) (b : U16) (c : U16) : Statement (.rir a b c) := ⟨_, rfl⟩

theorem rhr (a : Byte) (b : U16) (c : U16) : Statement (.rhr a b c) := ⟨_, rfl⟩

theorem wsr (a : Byte) (b : U16) (c : U16) : Statement (.wsr a b c) := ⟨_, rfl⟩

theorem wmr (a : Byte) (b : U16) (c : U16) (d : List Byte) : Statement (.wmr a b c d) := ⟨_, rfl⟩

theorem rwm (a : Byte) (b : U16) (c : U16) (d : U16) (e : U16) (f : List Byte) : Statement (.rwm a b c d e f) := ⟨_, rfl⟩

theorem mwr (a : Byte) (b : U16) (c : U16) (d : U16) : Statement (.mwr a b c d) := ⟨_, rfl⟩

theorem wmrOvl (a : Byte) (b : U16) (c : U16) (d : List Byte) : Statement (.wmrOvl a b c d) := ⟨_, rfl⟩

theorem illegal (a : Byte) (b : Byte) (c : List Byte) : Statement (.illegal a b c) := ⟨_, rfl⟩

end Sys2Proof.Laws.CodeHead
end

