-- ==== Sys2Proof/Laws/Requests.lean ====
section
/-! SUPPORT. What a request and a dispatch can do, said once. -/

namespace Sys2Proof.Machine

/-- A completed request (R238 to R244): the response goes to `TX`, unless it is a suppressed broadcast, and the latch
is released. -/
theorem complete_eq (addr : Byte) (body : List Byte) (s : State) :
    complete addr body s =
      if addr ≠ 0 ∨ s.cfg.bcastRespond = true then
        { s with tx := s.tx ++ [withCrc body], de := false, rxCur := 0, rxLen := 0 }
      else { s with rxCur := 0, rxLen := 0 } := by
  unfold complete respond
  split <;> rfl

/-- The body a request is answered with: its address and function byte first, or an exception. -/
def AnswersRequest (i : Instr) (body : List Byte) : Prop :=
  (∃ rest, body = requestAddr i :: requestFunction i :: rest) ∨
    ∃ code, body = excBody (requestAddr i) (requestFunction i) code

/-- The state a request answers from: after writes to `HOLD`, or after one image write. -/
def RequestEffect (s s' : State) : Prop :=
  KeptByHolding s s' ∨ ∃ off bytes, s' = (imgWrite off bytes s).2

/-- A request's outcome: it always completes, answering from a state that its effect gives. -/
def RequestOutcome (i : Instr) (s : State) (o : Host.Outcome State Fault Refusal) : Prop :=
  ∃ body s', o = .next (complete (requestAddr i) body s') ∧ AnswersRequest i body ∧ RequestEffect s s'

theorem RequestOutcome.exception (i : Instr) (code : ExcCode) {s s' : State} (h : RequestEffect s s') :
    RequestOutcome i s (.next (raiseExc (requestAddr i) (requestFunction i) code s')) :=
  ⟨_, s', rfl, .inr ⟨code, rfl⟩, h⟩

theorem RequestOutcome.normal (i : Instr) (rest : List Byte) {s s' : State} (h : RequestEffect s s') :
    RequestOutcome i s (.next (complete (requestAddr i) (requestAddr i :: requestFunction i :: rest) s')) :=
  ⟨_, s', rfl, .inl ⟨rest, rfl⟩, h⟩

theorem RequestEffect.unchanged (s : State) : RequestEffect s s := .inl (.rfl' s)

/-- Reading registers after the range check completes. -/
theorem answerRegisters_eq (addr fc : Byte) (start qty : Nat) (bank : List U16) (s : State)
    (h : start + qty ≤ bank.length) :
    answerRegisters addr fc start qty bank s =
      .next (complete addr (registersBody addr fc ((bank.drop start).take qty)) s) := by
  simp [answerRegisters, readCells_eq bank start qty h]

theorem exec_rdi_outcome (addr : Byte) (start qty : U16) (s : State) :
    RequestOutcome (.rdi addr start qty) s (exec (.rdi addr start qty) s) := by
  simp only [exec, execRdi]
  split
  · exact .exception (.rdi addr start qty) _ (.unchanged s)
  · have h := (chkRead_eq_none _ _ _).mp ‹_›
    rw [readCells_eq _ _ _ h.2]
    exact .normal (.rdi addr start qty) _ (.unchanged s)

theorem readRegisters_outcome (i : Instr) (start qty : U16) (bank : List U16) (s : State) :
    RequestOutcome i s (readRegisters (requestAddr i) (requestFunction i) start qty bank s) := by
  unfold readRegisters
  split
  · exact .exception i _ (.unchanged s)
  · rw [answerRegisters_eq _ _ _ _ _ _ ((chkRead_eq_none _ _ _).mp ‹_›).2]
    exact .normal i _ (.unchanged s)

theorem setHolding_isSome {i : Nat} (v : U16) {s : State} (h : i < s.hold.length) :
    ∃ ans t, setHolding i v s = some (ans, t) := by
  obtain ⟨hle, -⟩ | ⟨-, he⟩ | ⟨_, -, -, -, he⟩ | ⟨_, -, -, -, he⟩ := setHolding_cases i v s
  · omega
  all_goals exact ⟨_, _, he⟩

theorem exec_wsr_outcome (addr : Byte) (reg val : U16) (s : State) :
    RequestOutcome (.wsr addr reg val) s (exec (.wsr addr reg val) s) := by
  simp only [exec, execWsr]
  split
  · exact .exception (.wsr addr reg val) _ (.unchanged s)
  · obtain ⟨ans, t, he⟩ := setHolding_isSome (i := reg.toNat) val (s := s) (by omega)
    rw [he]
    cases ans with
    | fail => exact .exception (.wsr addr reg val) _ (.inl (setHolding_kept he))
    | ok => exact .normal (.wsr addr reg val) _ (.inl (setHolding_kept he))

theorem exec_mwr_outcome (addr : Byte) (ref andMask orMask : U16) (s : State) :
    RequestOutcome (.mwr addr ref andMask orMask) s (exec (.mwr addr ref andMask orMask) s) := by
  simp only [exec, execMwr]
  split
  · exact .exception (.mwr addr ref andMask orMask) _ (.unchanged s)
  · have hlt : ref.toNat < s.hold.length := by omega
    rw [List.getElem?_eq_getElem hlt]
    obtain ⟨ans, t, he⟩ := setHolding_isSome (maskedValue s.hold[ref.toNat] andMask orMask) hlt
    dsimp only
    rw [he]
    cases ans with
    | fail => exact .exception (.mwr addr ref andMask orMask) _ (.inl (setHolding_kept he))
    | ok => exact .normal (.mwr addr ref andMask orMask) _ (.inl (setHolding_kept he))

theorem setHoldings_of_chkWrite {start qty : U16} {data : List Byte} {s : State}
    (h : chkWrite start.toNat qty.toNat data.length s.hold.length = none) :
    ∃ ans t, setHoldings start.toNat (registerValues data) s = some (ans, t) := by
  obtain ⟨hle, hbc⟩ := (chkWrite_eq_none _ _ _ _).mp h
  exact setHoldings_isSome _ _ _ (by rw [registerValues_length]; omega)

theorem exec_wmr_outcome (addr : Byte) (start qty : U16) (data : List Byte) (s : State) :
    RequestOutcome (.wmr addr start qty data) s (exec (.wmr addr start qty data) s) := by
  simp only [exec, execWmr]
  split
  · exact .exception (.wmr addr start qty data) _ (.unchanged s)
  · obtain ⟨ans, t, he⟩ := setHoldings_of_chkWrite ‹_›
    rw [he]
    cases ans with
    | fail => exact .exception (.wmr addr start qty data) _ (.inl (setHoldings_kept he))
    | ok => exact .normal (.wmr addr start qty data) _ (.inl (setHoldings_kept he))

theorem exec_rwm_outcome (addr : Byte) (rstart rqty wstart wqty : U16) (wdata : List Byte) (s : State) :
    RequestOutcome (.rwm addr rstart rqty wstart wqty wdata) s (exec (.rwm addr rstart rqty wstart wqty wdata) s) := by
  simp only [exec, execRwm]
  split
  · exact .exception (.rwm addr rstart rqty wstart wqty wdata) _ (.unchanged s)
  · split
    · exact .exception (.rwm addr rstart rqty wstart wqty wdata) _ (.unchanged s)
    · have hr := (chkRead_eq_none _ _ _).mp ‹_›
      obtain ⟨ans, t, he⟩ := setHoldings_of_chkWrite ‹_›
      rw [he]
      have hk := setHoldings_kept he
      cases ans with
      | fail => exact .exception (.rwm addr rstart rqty wstart wqty wdata) _ (.inl hk)
      | ok =>
        dsimp only
        rw [answerRegisters_eq _ _ _ _ _ _ (by rw [hk.hold_length]; exact hr.2)]
        exact .normal (.rwm addr rstart rqty wstart wqty wdata) _ (.inl hk)

theorem exec_wmrOvl_outcome (addr : Byte) (start qty : U16) (data : List Byte) (s : State) :
    RequestOutcome (.wmrOvl addr start qty data) s (exec (.wmrOvl addr start qty data) s) := by
  simp only [exec, execWmrOvl]
  split
  · have he : RequestEffect s (imgWrite (overlayOffset start.toNat) data s).2 := .inr ⟨_, _, rfl⟩
    cases h : imgWrite (overlayOffset start.toNat) data s with
    | mk ans t =>
      rw [h] at he
      cases ans with
      | fail => exact .exception (.wmrOvl addr start qty data) _ he
      | ok => exact .normal (.wmrOvl addr start qty data) _ he
  · exact .exception (.wmrOvl addr start qty data) _ (.unchanged s)

/-- Every request, on every state, completes: it answers from the state its effect gives and releases the latch. -/
theorem exec_request_outcome {i : Instr} (h : i.isRequest = true) (s : State) : RequestOutcome i s (exec i s) := by
  cases i
  case rdi addr start qty => exact exec_rdi_outcome addr start qty s
  case rir addr start qty => exact readRegisters_outcome (.rir addr start qty) start qty s.inp s
  case rhr addr start qty => exact readRegisters_outcome (.rhr addr start qty) start qty s.hold s
  case wsr addr reg val => exact exec_wsr_outcome addr reg val s
  case wmr addr start qty data => exact exec_wmr_outcome addr start qty data s
  case rwm addr rstart rqty wstart wqty wdata => exact exec_rwm_outcome addr rstart rqty wstart wqty wdata s
  case mwr addr ref andMask orMask => exact exec_mwr_outcome addr ref andMask orMask s
  case wmrOvl addr start qty data => exact exec_wmrOvl_outcome addr start qty data s
  case illegal addr fc payload => exact .exception (.illegal addr fc payload) .illegalFunction (.unchanged s)
  all_goals cases h

/-- Everything a dispatch can do: drop without a kick, drop after the kick, or run the decoded request after it. -/
theorem dispatch_cases (frame : List Byte) (s : State) :
    (crcOk frame = false ∧ dispatch frame s = .next (release s)) ∨
    (∃ r, crcOk frame = true ∧ decodeRequest frame = .error r ∧ dispatch frame s = .next (release (kickWatchdog s))) ∨
    (∃ i, crcOk frame = true ∧ decodeRequest frame = .ok i ∧ i.isRequest = true ∧
      dispatch frame s = exec i (kickWatchdog s)) := by
  unfold dispatch
  cases hc : crcOk frame with
  | false => exact .inl ⟨rfl, by simp⟩
  | true =>
    cases hd : decodeRequest frame with
    | error r => exact .inr (.inl ⟨r, rfl, rfl, by simp⟩)
    | ok i =>
      have hi := decodeRequest_isRequest hd
      exact .inr (.inr ⟨i, rfl, rfl, hi, by simp [execRequest_eq_exec hi]⟩)

theorem frameLatched_eq_true (s : State) : frameLatched s = true ↔ s.rxLen ≠ 0 := by simp [frameLatched]

theorem frameLatched_eq_false (s : State) : frameLatched s = false ↔ s.rxLen = 0 := by simp [frameLatched]

/-- LOOP.ITER with no frame latched. -/
theorem exec_loopIter_idle {s : State} (h : s.rxLen = 0) : exec .loopIter s = .next (resolveAddr s) := by
  simp [exec, execLoopIter, (frameLatched_eq_false (resolveAddr s)).mpr h]

/-- LOOP.ITER with a latch value below the minimum. -/
theorem exec_loopIter_short {s : State} (h : s.rxLen ≠ 0) (hl : s.rxLen < Config.minFrame) :
    exec .loopIter s = .fault .latchBelowMinimum := by
  simp [exec, execLoopIter, (frameLatched_eq_true (resolveAddr s)).mpr h, hl]

/-- LOOP.ITER with a frame latched. -/
theorem exec_loopIter_latched {s : State} (hl : Config.minFrame ≤ s.rxLen) :
    exec .loopIter s =
      match frameBytes s 0 s.rxLen with
      | .error f => .fault f
      | .ok frame => dispatch frame (resolveAddr s) := by
  have h : frameLatched (resolveAddr s) = true :=
    (frameLatched_eq_true _).mpr (by rw [resolveAddr_rxLen]; simp [Config.minFrame] at hl; omega)
  rw [← frameBytes_congr (s := s) (t := resolveAddr s) rfl rfl]
  simp only [exec, execLoopIter, h, if_true, resolveAddr_rxLen]
  exact if_neg (Nat.not_lt.mpr hl)

/-- Everything LOOP.ITER can do. -/
theorem exec_loopIter_cases (s : State) :
    (s.rxLen = 0 ∧ exec .loopIter s = .next (resolveAddr s)) ∨
    (∃ f, exec .loopIter s = .fault f) ∨
    (∃ frame, s.rxLen ≠ 0 ∧ Config.minFrame ≤ s.rxLen ∧ frameBytes s 0 s.rxLen = .ok frame ∧
      frame.length = s.rxLen ∧ exec .loopIter s = dispatch frame (resolveAddr s)) := by
  by_cases h : s.rxLen = 0
  · exact .inl ⟨h, exec_loopIter_idle h⟩
  · by_cases hl : s.rxLen < Config.minFrame
    · exact .inr (.inl ⟨_, exec_loopIter_short h hl⟩)
    · have he := exec_loopIter_latched (s := s) (by omega)
      cases hf : frameBytes s 0 s.rxLen with
      | error f => exact .inr (.inl ⟨f, by rw [he, hf]⟩)
      | ok frame =>
        exact .inr (.inr ⟨frame, h, by omega, rfl, (frameBytes_get s 0 _ _ hf).1, by rw [he, hf]⟩)

end Sys2Proof.Machine
end

