-- ==== Sys2Proof/Laws/Step.lean ====
section
/-! SUPPORT. What the receiver's operations, an event and a step can do, said once. -/

namespace Sys2Proof.Machine

/-- An operation word never decodes to a request. -/
theorem decodeOperation_isRequest {w : OpWord} {i : Instr} (h : decodeOperation w = .ok i) : i.isRequest = false := by
  unfold decodeOperation at h
  split at h
  all_goals first
    | (cases h; rfl)
    | (unfold operandOf at h; split at h <;> cases h; rfl)
    | (unfold noOperand at h; split at h <;> cases h; rfl)

/-- Everything a step can do. -/
theorem step_cases (s : State) :
    (configOk s = false ∧ step s = .refused .invalidConfiguration) ∨
    (configOk s = true ∧ s.inputs = [] ∧ step s = .next s) ∨
    (∃ w rest i, configOk s = true ∧ s.inputs = .operation w :: rest ∧ decodeOperation w = .ok i ∧
      step s = exec i { s with inputs := rest }) ∨
    (∃ w rest r, configOk s = true ∧ s.inputs = .operation w :: rest ∧ decodeOperation w = .error r ∧
      step s = .refused (.undecodable r)) ∨
    (∃ e rest, configOk s = true ∧ s.inputs = e :: rest ∧ (∀ w, e ≠ .operation w) ∧
      step s = applyEvent e { s with inputs := rest }) := by
  cases hc : configOk s with
  | false => exact .inl ⟨rfl, by simp [step, hc]⟩
  | true =>
    refine .inr ?_
    cases hi : s.inputs with
    | nil => exact .inl ⟨rfl, rfl, by simp [step, hc, fetch, hi]⟩
    | cons e rest =>
      cases e with
      | operation w =>
        cases hd : decodeOperation w with
        | ok i => exact .inr (.inl ⟨w, rest, i, rfl, rfl, hd, by simp [step, hc, fetch, hi, hd]⟩)
        | error r => exact .inr (.inr (.inl ⟨w, rest, r, rfl, rfl, hd, by simp [step, hc, fetch, hi, hd]⟩))
      | setDiscrete i b => exact .inr (.inr (.inr ⟨_, rest, rfl, rfl, nofun, by simp [step, hc, fetch, hi]⟩))
      | setInput i v => exact .inr (.inr (.inr ⟨_, rest, rfl, rfl, nofun, by simp [step, hc, fetch, hi]⟩))
      | setHolding i v => exact .inr (.inr (.inr ⟨_, rest, rfl, rfl, nofun, by simp [step, hc, fetch, hi]⟩))
      | setUpgInProgress b => exact .inr (.inr (.inr ⟨_, rest, rfl, rfl, nofun, by simp [step, hc, fetch, hi]⟩))
      | setAddrBase b => exact .inr (.inr (.inr ⟨_, rest, rfl, rfl, nofun, by simp [step, hc, fetch, hi]⟩))
      | setStrap x => exact .inr (.inr (.inr ⟨_, rest, rfl, rfl, nofun, by simp [step, hc, fetch, hi]⟩))
      | systemReset l => exact .inr (.inr (.inr ⟨_, rest, rfl, rfl, nofun, by simp [step, hc, fetch, hi]⟩))

/-- A step whose event is an operation word. -/
theorem step_operation {s : State} {w : OpWord} {rest : List Input} {i : Instr} (hc : configOk s = true)
    (hi : s.inputs = .operation w :: rest) (hd : decodeOperation w = .ok i) :
    step s = exec i { s with inputs := rest } := by
  simp [step, hc, fetch, hi, hd]

/-- The run of the statements is the run of the machine behind the host's interface. -/
theorem runSteps_eq_core_run (n : Nat) (s : State) : runSteps n s = Host.Core.run core n s := by
  induction n generalizing s with
  | zero => rfl
  | succ n ih =>
    cases h : step s with
    | next t => simp only [runSteps, Host.Core.run, h, show core.step s = .next t from h]; exact ih t
    | fault f => simp only [runSteps, Host.Core.run, h, show core.step s = .fault f from h]; rfl
    | refused r => simp only [runSteps, Host.Core.run, h, show core.step s = .refused r from h]; rfl

/-- Everything RX.BYTE can do. -/
theorem exec_rxByte_cases (b : Byte) (s : State) :
    (s.rxLen ≠ 0 ∧ exec (.rxByte b) s = .next s) ∨
    (s.rxLen = 0 ∧ s.baudWritten = false ∧ exec (.rxByte b) s = .refused (.unwrittenRegister .t35Reload)) ∨
    (s.rxLen = 0 ∧ s.baudWritten = true ∧ s.rxCur < s.cfg.bufCap ∧ exec (.rxByte b) s =
      .next { s with fb := s.fb.write s.rxCur b, rxCur := s.rxCur + 1, tmrCnt := s.t35Reload, tmrArmed := true }) ∨
    (s.rxLen = 0 ∧ s.baudWritten = true ∧ s.cfg.bufCap ≤ s.rxCur ∧ exec (.rxByte b) s =
      .next { s with tmrCnt := s.t35Reload, tmrArmed := true }) := by
  simp only [exec, execRxByte]
  by_cases hl : s.rxLen = 0
  · have hf := (frameLatched_eq_false s).mpr hl
    cases hb : s.baudWritten with
    | false => exact .inr (.inl ⟨hl, rfl, by simp [hf]⟩)
    | true =>
      by_cases hc : s.rxCur < s.cfg.bufCap
      · exact .inr (.inr (.inl ⟨hl, rfl, hc, by simp [hf, appendByte, hc, armTimer, storeFrameByte, ← hb]⟩))
      · exact .inr (.inr (.inr ⟨hl, rfl, by omega, by simp [hf, appendByte, hc, armTimer, ← hb]⟩))
  · exact .inl ⟨hl, by simp [(frameLatched_eq_true s).mpr hl]⟩

/-- Everything a fire can do. -/
theorem fire_cases (s : State) :
    (s.rxLen ≠ 0 ∧ fire s = .next s) ∨
    (s.rxLen = 0 ∧ s.slaveAddrWritten = false ∧ fire s = .refused (.unwrittenRegister .slaveAddr)) ∨
    (s.rxLen = 0 ∧ s.slaveAddrWritten = true ∧ s.rxCur < Config.minFrame ∧ fire s = .next (resetBuffer s)) ∨
    (∃ f, s.rxLen = 0 ∧ Config.minFrame ≤ s.rxCur ∧ frameByte s 0 = .error f ∧ fire s = .fault f) ∨
    (∃ first, s.rxLen = 0 ∧ s.slaveAddrWritten = true ∧ Config.minFrame ≤ s.rxCur ∧ frameByte s 0 = .ok first ∧
      fire s = .next (if addressed first s.slaveAddr then latchFrame s else resetBuffer s)) := by
  unfold fire
  by_cases hl : s.rxLen = 0
  · have hf := (frameLatched_eq_false s).mpr hl
    cases hw : s.slaveAddrWritten with
    | false => exact .inr (.inl ⟨hl, rfl, by simp [hf]⟩)
    | true =>
      by_cases hc : Config.minFrame ≤ s.rxCur
      · cases hb : frameByte s 0 with
        | error f => exact .inr (.inr (.inr (.inl ⟨f, hl, hc, rfl, by simp [hf, hc]⟩)))
        | ok first => exact .inr (.inr (.inr (.inr ⟨first, hl, rfl, hc, rfl, by simp [hf, hc]⟩)))
      · exact .inr (.inr (.inl ⟨hl, rfl, by omega, by simp [hf, hc]⟩))
  · exact .inl ⟨hl, by simp [(frameLatched_eq_true s).mpr hl]⟩

/-- Everything TMR.TICK can do. -/
theorem exec_tmrTick_cases (s : State) :
    (s.tmrArmed = false ∧ exec .tmrTick s = .next s) ∨
    (s.tmrArmed = true ∧ s.tmrCnt = 0 ∧ exec .tmrTick s = .fault .timerUnderflow) ∨
    (s.tmrArmed = true ∧ 1 < s.tmrCnt ∧ exec .tmrTick s = .next { s with tmrCnt := s.tmrCnt - 1 }) ∨
    (s.tmrArmed = true ∧ s.tmrCnt = 1 ∧ exec .tmrTick s = fire { s with tmrCnt := 0, tmrArmed := false }) := by
  simp only [exec, execTmrTick]
  cases ha : s.tmrArmed with
  | false => exact .inl ⟨rfl, by simp⟩
  | true =>
    refine .inr ?_
    by_cases h0 : s.tmrCnt = 0
    · exact .inl ⟨rfl, h0, by simp [h0]⟩
    · by_cases h1 : s.tmrCnt = 1
      · exact .inr (.inr ⟨rfl, h1, by simp [h1]⟩)
      · exact .inr (.inl ⟨rfl, by omega, by simp [h0, h1]⟩)

end Sys2Proof.Machine
end

