-- ==== Sys2Proof/Tests/Slice0.lean ====
section
/-! SUPPORT. The model's own tests: ill-formed terms, written-out codes, one-step results of 95_test_vectors.md (cited
as V<n>; the spec derived them from its rules), and a witness for the hypotheses of each statement. -/

open Sys2Proof Sys2Proof.Machine

namespace Sys2Proof.Tests

set_option Elab.async false

/-- A look at the next state; `none` for a fault or a refusal. -/
def after {α : Type} (o : Host.Outcome State Fault Refusal) (look : State → α) : Option α :=
  match o with
  | .next t => some (look t)
  | .fault _ => none
  | .refused _ => none

/-- The reason of a refusal. -/
def refusal (o : Host.Outcome State Fault Refusal) : Option Refusal :=
  match o with
  | .next _ => none
  | .fault _ => none
  | .refused r => some r

/-- The state after BOOT of Part 3, both ports answering `ok`. -/
def booted : State :=
  { State.reset with
    baud := 9600, t35Reload := 4011, baudWritten := true, slaveAddr := 0x0B, slaveAddrWritten := true
    nvAnswers := [.ok, .ok, .ok, .ok], imgAnswers := [.ok] }

/-- The booted state with given holding registers, the rest of the 16 at 0. -/
def holding (cells : List U16) : State := { booted with hold := cells ++ List.replicate (16 - cells.length) 0 }

/-- The bank contents of section 2.5. -/
def readBanks : State :=
  { holding [0x1234, 0xABCD] with
    disc := [true, false, false, true, false, false, false, false, false, true, false, false, false, false, false, false]
    inp := [0x4142, 0x4344, 0, 0, 0, 0, 0, 0] }

/-- LOOP.ITER with a frame latched. -/
def loop (frame : List Byte) (s : State) : Host.Outcome State Fault Refusal := exec .loopIter (latchedFrame frame s)

/-- A frame received and not yet latched, the timer about to fire. -/
def received (frame : List Byte) : State :=
  { latchedFrame frame booted with rxLen := 0, tmrArmed := true, tmrCnt := 1 }

/-- The one event to come. -/
def coming (e : Input) (s : State) : State := { s with inputs := [e] }

/-- The request of X1. -/
def readTwo : List Byte := [0x0B, 0x03, 0x00, 0x00, 0x00, 0x02, 0xC4, 0xA1]

/-! ### Well-formedness: an ill-formed term for each check -/

theorem test_wf_baud_zero : (Instr.cfgBaud 0).wf = false := by decide
theorem test_wf_wmr_overlay_start : (Instr.wmr 0x0B 0x1000 1 [0, 0]).wf = false := by decide
theorem test_wf_wmr_long : (Instr.wmr 0x0B 0 128 (List.replicate 256 0)).wf = false := by decide +kernel
theorem test_wf_rwm_long : (Instr.rwm 0x0B 0 1 0 128 (List.replicate 256 0)).wf = false := by decide +kernel
theorem test_wf_ovl_low_start : (Instr.wmrOvl 0x0B 0x0FFF 1 [0, 0]).wf = false := by decide
theorem test_wf_ovl_long : (Instr.wmrOvl 0x0B 0x1000 128 (List.replicate 256 0)).wf = false := by decide +kernel
theorem test_wf_illegal_supported : (Instr.illegal 0x0B 0x17 [0]).wf = false := by decide
theorem test_wf_illegal_empty : (Instr.illegal 0x0B 0x11 []).wf = false := by decide
theorem test_wf_accepts : (Instr.wmr 0x0B 0x0FFF 127 (List.replicate 255 0)).wf = true := by decide +kernel

/-! ### Decoding: codes written out from R112, R113 and from the frames of 95_test_vectors.md -/

theorem test_decode_crcrSeed : decodeOperation ⟨0b0000, 0xFFFF⟩ = .ok (.crcrSeed 0xFFFF) := by decide +kernel
theorem test_decode_crcrByte : decodeOperation ⟨0b0001, 0x0B⟩ = .ok (.crcrByte 0x0B) := by decide +kernel
theorem test_decode_crcfSeed : decodeOperation ⟨0b0010, 0x8000⟩ = .ok (.crcfSeed 0x8000) := by decide +kernel
theorem test_decode_crcfByte : decodeOperation ⟨0b0011, 0x01⟩ = .ok (.crcfByte 0x01) := by decide +kernel
theorem test_decode_crcfPoly : decodeOperation ⟨0b0100, 0x8005⟩ = .ok (.crcfPoly 0x8005) := by decide +kernel
theorem test_decode_rxByte : decodeOperation ⟨0b0101, 0x0B⟩ = .ok (.rxByte 0x0B) := by decide +kernel
theorem test_decode_tmrTick : decodeOperation ⟨0b0110, 0⟩ = .ok .tmrTick := by decide +kernel
theorem test_decode_msTick : decodeOperation ⟨0b0111, 0⟩ = .ok .msTick := by decide +kernel
theorem test_decode_cfgBaud : decodeOperation ⟨0b1000, 9600⟩ = .ok (.cfgBaud 9600) := by decide +kernel
theorem test_decode_cfgAddr : decodeOperation ⟨0b1001, 0⟩ = .ok .cfgAddr := by decide +kernel
theorem test_decode_loopIter : decodeOperation ⟨0b1010, 0⟩ = .ok .loopIter := by decide +kernel
theorem test_decode_reservedB : decodeOperation ⟨0b1011, 0⟩ = .ok .reservedB := by decide +kernel
theorem test_decode_reservedC : decodeOperation ⟨0b1100, 0⟩ = .ok .reservedC := by decide +kernel
theorem test_decode_reservedD : decodeOperation ⟨0b1101, 0⟩ = .ok .reservedD := by decide +kernel
theorem test_decode_reservedE : decodeOperation ⟨0b1110, 0⟩ = .ok .reservedE := by decide +kernel
theorem test_decode_reservedF : decodeOperation ⟨0b1111, 0⟩ = .ok .reservedF := by decide +kernel
theorem test_decode_wide_operand : decodeOperation ⟨0b0101, 0x100⟩ = .error .operandTooWide := by decide +kernel
theorem test_decode_stray_operand : decodeOperation ⟨0b1010, 1⟩ = .error .strayOperand := by decide +kernel
/-- V50. -/
theorem test_decode_rdi : decodeRequest [0x0B, 0x02, 0x00, 0x00, 0x00, 0x0A, 0xF8, 0xA7] = .ok (.rdi 0x0B 0 10) := by
  decide +kernel
/-- V52. -/
theorem test_decode_rir : decodeRequest [0x0B, 0x04, 0x00, 0x00, 0x00, 0x02, 0x71, 0x61] = .ok (.rir 0x0B 0 2) := by
  decide +kernel
/-- V51b. -/
theorem test_decode_rhr : decodeRequest [0x0B, 0x03, 0x00, 0x0F, 0x00, 0x02, 0xF4, 0xA2] = .ok (.rhr 0x0B 15 2) := by
  decide +kernel
/-- V60. -/
theorem test_decode_wsr : decodeRequest [0x0B, 0x06, 0x00, 0x02, 0x00, 0x12, 0xA8, 0xAD] = .ok (.wsr 0x0B 2 0x12) := by
  decide +kernel
/-- V62. -/
theorem test_decode_wmr :
    decodeRequest [0x0B, 0x10, 0x00, 0x04, 0x00, 0x02, 0x04, 0xDE, 0xAD, 0xBE, 0xEF, 0x48, 0x61]
      = .ok (.wmr 0x0B 4 2 [0xDE, 0xAD, 0xBE, 0xEF]) := by decide +kernel
/-- V64. -/
theorem test_decode_rwm :
    decodeRequest [0x0B, 0x17, 0x00, 0x02, 0x00, 0x04, 0x00, 0x03, 0x00, 0x01, 0x02, 0xCA, 0xFE, 0xFA, 0x42]
      = .ok (.rwm 0x0B 2 4 3 1 [0xCA, 0xFE]) := by decide +kernel
/-- V66. -/
theorem test_decode_mwr :
    decodeRequest [0x0B, 0x16, 0x00, 0x02, 0x00, 0xF2, 0x00, 0x25, 0x6F, 0x91] = .ok (.mwr 0x0B 2 0xF2 0x25) := by
  decide +kernel
/-- V63. -/
theorem test_decode_wmrOvl :
    decodeRequest [0x0B, 0x10, 0x10, 0x08, 0x00, 0x01, 0x02, 0x14, 0x6C, 0xC7, 0x54]
      = .ok (.wmrOvl 0x0B 0x1008 1 [0x14, 0x6C]) := by decide +kernel
/-- V81. -/
theorem test_decode_illegal : decodeRequest [0x0B, 0x83, 0x00, 0x61, 0x32] = .ok (.illegal 0x0B 0x83 [0x00]) := by
  decide +kernel
/-- V46. -/
theorem test_decode_malformed :
    decodeRequest [0x0B, 0x10, 0x00, 0x00, 0x00, 0x02, 0x04, 0x00, 0x01, 0x00, 0xB5, 0x42] = .error .malformedLength := by
  decide +kernel

/-! ### The CRC unit -/

/-- V8b. -/
theorem test_crcrSeed : after (exec (.crcrSeed 0xFFFF) State.reset) (·.crcrAcc) = some 0xFFFF := by decide +kernel
/-- V8b. -/
theorem test_crcrByte :
    after (exec (.crcrByte 0x0B) { State.reset with crcrAcc := 0xFFFF, crcrAccWritten := true }) (·.crcrAcc)
      = some 0x87FE := by decide +kernel
/-- V8c. -/
theorem test_crcrByte_first : refusal (exec (.crcrByte 0x00) State.reset) = some (.unwrittenRegister .crcrAcc) := by
  decide +kernel
/-- V18c. -/
theorem test_crcfSeed : after (exec (.crcfSeed 0x8000) State.reset) (·.crcfAcc) = some 0x8000 := by decide +kernel
/-- V18c. -/
theorem test_crcfByte :
    after (exec (.crcfByte 0x01) { State.reset with crcfAcc := 0x8000, crcfAccWritten := true }) (·.crcfAcc)
      = some 0x9189 := by decide +kernel
/-- V18b. -/
theorem test_crcfByte_other_polynomial :
    after (exec (.crcfByte 0x33) { State.reset with crcfAcc := 0x3132, crcfAccWritten := true, crcfPoly := 0x8005 })
      (·.crcfAcc) = some 0xB296 := by decide +kernel
/-- V18a, V18d. -/
theorem test_crcfPoly :
    State.reset.crcfPoly = 0x1021 ∧ after (exec (.crcfPoly 0x8005) State.reset) (·.crcfPoly) = some 0x8005 := by
  decide +kernel
/-- V3, V12. -/
theorem test_check_values :
    mbcrc [0x31, 0x32, 0x33, 0x34, 0x35, 0x36, 0x37, 0x38, 0x39] = 0x4B37 ∧
    crc16fAug 0 [0x31, 0x32, 0x33, 0x34, 0x35, 0x36, 0x37, 0x38, 0x39] 0x1021 = 0x31C3 := by decide +kernel

/-! ### The receiver -/

/-- V23. -/
theorem test_rxByte :
    after (exec (.rxByte 0x0B) booted) (fun t => (t.fb, t.rxCur, t.tmrArmed, t.tmrCnt))
      = some ([(0, 0x0B)], 1, true, 4011) := by decide +kernel
/-- V29. -/
theorem test_rxByte_latched :
    after (exec (.rxByte 0x0B) (latchedFrame [0x0B, 0x11, 0x00, 0x0C, 0x52] booted))
      (· == latchedFrame [0x0B, 0x11, 0x00, 0x0C, 0x52] booted) = some true := by decide +kernel
/-- V24. -/
theorem test_tmrTick_latches :
    after (exec .tmrTick (received readTwo)) (fun t => (t.rxLen, t.rxCur, t.tmrArmed)) = some (8, 8, false) := by
  decide +kernel
/-- V25. -/
theorem test_tmrTick_resets :
    after (exec .tmrTick (received [0x0C, 0x03, 0x00, 0x00, 0x00, 0x02, 0xC5, 0x16]))
      (fun t => (t.rxLen, t.rxCur, t.tmrArmed)) = some (0, 0, false) := by decide +kernel
/-- V34. -/
theorem test_msTick_wraps : after (exec .msTick { booted with tickMs := 2 ^ 32 - 1 }) (·.tickMs) = some 0 := by
  decide +kernel
/-- V20, V21. -/
theorem test_cfgBaud :
    [9600, 19200, 1200, 22000, 115200].map (t35Period Config.example95) = [4011, 2006, 32084, 1750, 1750] := by
  decide +kernel
/-- V21b. -/
theorem test_cfgBaud_running :
    after (exec (.cfgBaud 19200) { received readTwo with tmrCnt := 11 }) (fun t => (t.tmrCnt, t.tmrArmed, t.t35Reload))
      = some (11, true, 2006) := by decide +kernel
/-- V22. -/
theorem test_cfgAddr :
    after (exec .cfgAddr { State.reset with addrBase := 250, strap := 10 }) (·.slaveAddr) = some 4 := by decide +kernel

/-! ### The main loop and the requests -/

/-- V42. -/
theorem test_loopIter :
    after (loop readTwo { holding [0x1234, 0xABCD] with tickMs := 1000 })
      (fun t => (t.tx, t.wdgDeadline, t.rxLen, t.rxCur, t.de))
      = some ([[0x0B, 0x03, 0x04, 0x12, 0x34, 0xAB, 0xCD, 0xAA, 0x20]], 6000, 0, 0, false) := by decide +kernel
/-- V41. -/
theorem test_loopIter_bad_crc :
    after (loop [0x0B, 0x03, 0x00, 0x00, 0x00, 0x02, 0xC4, 0xA0] booted) (fun t => (t.tx, t.wdgDeadline, t.rxLen))
      = some ([], 0, 0) := by decide +kernel
theorem test_reservedB : refusal (exec .reservedB State.reset) = some (.reservedOperation 0xB) := by decide
theorem test_reservedC : refusal (exec .reservedC State.reset) = some (.reservedOperation 0xC) := by decide
theorem test_reservedD : refusal (exec .reservedD State.reset) = some (.reservedOperation 0xD) := by decide
theorem test_reservedE : refusal (exec .reservedE State.reset) = some (.reservedOperation 0xE) := by decide
theorem test_reservedF : refusal (exec .reservedF State.reset) = some (.reservedOperation 0xF) := by decide
/-- V50. -/
theorem test_rdi :
    after (loop [0x0B, 0x02, 0x00, 0x00, 0x00, 0x0A, 0xF8, 0xA7] readBanks) (·.tx)
      = some [[0x0B, 0x02, 0x02, 0x09, 0x02, 0xA6, 0x28]] := by decide +kernel
/-- V50d. -/
theorem test_rdi_past_end :
    after (loop [0x0B, 0x02, 0x00, 0x08, 0x00, 0x09, 0x39, 0x64] readBanks) (·.tx)
      = some [[0x0B, 0x82, 0x02, 0xE1, 0x63]] := by decide +kernel
/-- V52. -/
theorem test_rir :
    after (loop [0x0B, 0x04, 0x00, 0x00, 0x00, 0x02, 0x71, 0x61] readBanks) (·.tx)
      = some [[0x0B, 0x04, 0x04, 0x41, 0x42, 0x43, 0x44, 0xD4, 0xAF]] := by decide +kernel
/-- V52b. -/
theorem test_rir_past_end :
    after (loop [0x0B, 0x04, 0x00, 0x08, 0x00, 0x01, 0xB0, 0xA2] readBanks) (·.tx)
      = some [[0x0B, 0x84, 0x02, 0xE2, 0xC3]] := by decide +kernel
/-- V51f. -/
theorem test_rhr_no_wrap :
    after (loop [0x0B, 0x03, 0xFF, 0xFF, 0xFF, 0xFF, 0x44, 0xF4] readBanks) (·.tx)
      = some [[0x0B, 0x83, 0x02, 0xE0, 0xF3]] := by decide +kernel
/-- V51d. -/
theorem test_rhr_zero :
    after (loop [0x0B, 0x03, 0x00, 0x00, 0x00, 0x00, 0x45, 0x60] readBanks) (·.tx)
      = some [[0x0B, 0x83, 0x03, 0x21, 0x33]] := by decide +kernel
/-- V60. -/
theorem test_wsr :
    after (loop [0x0B, 0x06, 0x00, 0x02, 0x00, 0x12, 0xA8, 0xAD] booted) (fun t => (t.tx, t.hold[2]?, t.nvTrace))
      = some ([[0x0B, 0x06, 0x00, 0x02, 0x00, 0x12, 0xA8, 0xAD]], some 0x12, [⟨4, [0x00, 0x12], .ok⟩]) := by
  decide +kernel
/-- V83. -/
theorem test_wsr_fail :
    after (loop [0x0B, 0x06, 0x00, 0x01, 0x55, 0x55, 0x27, 0xCF] { booted with nvAnswers := [.fail] })
      (fun t => (t.tx, t.hold[1]?, t.nvTrace))
      = some ([[0x0B, 0x86, 0x04, 0x63, 0xA1]], some 0, [⟨2, [0x55, 0x55], .fail⟩]) := by decide +kernel
/-- V62. -/
theorem test_wmr :
    after (loop [0x0B, 0x10, 0x00, 0x04, 0x00, 0x02, 0x04, 0xDE, 0xAD, 0xBE, 0xEF, 0x48, 0x61] booted)
      (fun t => (t.tx, t.hold[4]?, t.hold[5]?, t.nvTrace))
      = some ([[0x0B, 0x10, 0x00, 0x04, 0x00, 0x02, 0x00, 0xA3]], some 0xDEAD, some 0xBEEF,
        [⟨8, [0xDE, 0xAD], .ok⟩, ⟨10, [0xBE, 0xEF], .ok⟩]) := by decide +kernel
/-- V85. -/
theorem test_wmr_partial :
    after (loop [0x0B, 0x10, 0x00, 0x00, 0x00, 0x03, 0x06, 0x00, 0x01, 0x00, 0x02, 0x00, 0x03, 0x22, 0x8B]
        { booted with nvAnswers := [.ok, .fail, .ok] })
      (fun t => (t.tx, t.hold.take 3, t.nvTrace))
      = some ([[0x0B, 0x90, 0x04, 0x6D, 0xC1]], [1, 0, 0], [⟨0, [0x00, 0x01], .ok⟩, ⟨2, [0x00, 0x02], .fail⟩]) := by
  decide +kernel
/-- V64. -/
theorem test_rwm :
    after (loop [0x0B, 0x17, 0x00, 0x02, 0x00, 0x04, 0x00, 0x03, 0x00, 0x01, 0x02, 0xCA, 0xFE, 0xFA, 0x42]
        (holding [0, 0, 0x17, 0, 0xDEAD, 0xBEEF]))
      (fun t => (t.tx, t.hold[3]?))
      = some ([[0x0B, 0x17, 0x08, 0x00, 0x17, 0xCA, 0xFE, 0xDE, 0xAD, 0xBE, 0xEF, 0x30, 0xD5]], some 0xCAFE) := by
  decide +kernel
/-- V64b. -/
theorem test_rwm_read_range_first :
    after (loop [0x0B, 0x17, 0x00, 0x10, 0x00, 0x01, 0x00, 0x00, 0x00, 0x01, 0x02, 0x00, 0x01, 0x8C, 0xF1] booted)
      (fun t => (t.tx, t.hold[0]?)) = some ([[0x0B, 0x97, 0x02, 0xEF, 0xF3]], some 0) := by decide +kernel
/-- V66. -/
theorem test_mwr :
    after (loop [0x0B, 0x16, 0x00, 0x02, 0x00, 0xF2, 0x00, 0x25, 0x6F, 0x91] (holding [0, 0, 0x12]))
      (fun t => (t.tx, t.hold[2]?, t.nvTrace))
      = some ([[0x0B, 0x16, 0x00, 0x02, 0x00, 0xF2, 0x00, 0x25, 0x6F, 0x91]], some 0x17, [⟨4, [0x00, 0x17], .ok⟩]) := by
  decide +kernel
/-- V68. -/
theorem test_mwr_equal :
    after (loop [0x0B, 0x16, 0x00, 0x02, 0x00, 0xF2, 0x00, 0x25, 0x6F, 0x91] (holding [0, 0, 0x17]))
      (fun t => (t.hold[2]?, t.nvTrace)) = some (some 0x17, []) := by decide +kernel
/-- V63. -/
theorem test_wmrOvl :
    after (loop [0x0B, 0x10, 0x10, 0x08, 0x00, 0x01, 0x02, 0x14, 0x6C, 0xC7, 0x54] { booted with upgInProgress := true })
      (fun t => (t.tx, t.imgTrace, t.nvTrace))
      = some ([[0x0B, 0x10, 0x10, 0x08, 0x00, 0x01, 0x84, 0x61]], [⟨16, [0x14, 0x6C], .ok⟩], []) := by decide +kernel
/-- V63a. -/
theorem test_wmrOvl_idle :
    after (loop [0x0B, 0x10, 0x10, 0x00, 0x00, 0x01, 0x02, 0xAA, 0x55, 0x77, 0xAE] booted)
      (fun t => (t.tx, t.imgTrace)) = some ([[0x0B, 0x90, 0x02, 0xED, 0xC3]], []) := by decide +kernel
/-- V82. -/
theorem test_illegal :
    after (loop [0x0B, 0x11, 0x00, 0x0C, 0x52] booted) (·.tx) = some [[0x0B, 0x91, 0x01, 0xAC, 0x52]] := by
  decide +kernel
/-- V81. -/
theorem test_illegal_high_bit :
    after (loop [0x0B, 0x83, 0x00, 0x61, 0x32] booted) (·.tx) = some [[0x0B, 0x83, 0x01, 0xA0, 0xF2]] := by
  decide +kernel

/-! ### Steps and the table's words -/

theorem test_reset_memory_wf : State.reset.fb.wf = true := by decide
theorem test_table_word_operation : decodeTableWord 8 0x05 = some (.rxByte 0) := by decide +kernel
theorem test_table_word_request : decodeTableWord 8 0x17 = some (.rwm 0 0 0 0 0 []) := by decide +kernel
/-- The word of ILLEGAL with function byte 0x11, run as the first instruction after reset. -/
theorem test_step_runs_a_placed_request :
    after (step (State.reset.withFetchWord 8 0x11)) (fun t => t.tx.map (·.take 3)) = some [[0x00, 0x91, 0x01]] := by
  decide +kernel
/-- The word of LOOP.ITER, run as the first instruction after reset. -/
theorem test_step_runs_a_placed_operation :
    after (step (State.reset.withFetchWord 8 0x0A)) (fun t => (t.slaveAddr, t.inputs)) = some (0x0B, []) := by
  decide +kernel

/-! ### A witness for the hypotheses of each statement -/

theorem booted_inv : Inv booted := inv_of_check (by decide +kernel)
theorem received_inv : Inv (received readTwo) := inv_of_check (by decide +kernel)
theorem latched_inv : Inv (latchedFrame readTwo booted) := inv_of_check (by decide +kernel)

theorem latched_readTwo : LatchedFrame (latchedFrame readTwo booted) readTwo := ⟨rfl, by decide, rfl⟩

theorem witness_CrcrBytes :
    configOk booted = true ∧ ({ booted with crcrAccWritten := true } : State).crcrAccWritten = true ∧
    State.reset.crcrAccWritten = false ∧
    ({ booted with inputs := [.operation ⟨0, 0xFFFF⟩, .operation ⟨1, 0x0B⟩] } : State).inputs
      = operationInputs (.crcrSeed 0xFFFF :: [(0x0B : Byte)].map .crcrByte) ++ [] := by decide +kernel

theorem witness_CrcfBytes :
    configOk booted = true ∧ ({ booted with crcfAccWritten := true } : State).crcfAccWritten = true ∧
    State.reset.crcfAccWritten = false ∧
    ({ booted with inputs := [.operation ⟨2, 0⟩, .operation ⟨3, 0x31⟩] } : State).inputs
      = operationInputs (.crcfSeed 0 :: [(0x31 : Byte)].map .crcfByte) ++ [] := by decide +kernel

theorem witness_ReflectedCrcLaws :
    OneBitApart readTwo [0x0B, 0x03, 0x00, 0x00, 0x00, 0x03, 0xC4, 0xA1] ∧
    OneBitApart [0x80] [0x00] :=
  ⟨⟨[0x0B, 0x03, 0x00, 0x00, 0x00], 0x02, [0xC4, 0xA1], 0, by decide, by decide, by decide⟩,
    ⟨[], 0x80, [], 7, by decide, by decide, by decide⟩⟩

/-- Clause by clause: a latched frame; an idle buffer with room; the last cell; a full buffer; no CFG.BAUD yet. -/
theorem witness_ReceivedByte :
    (latchedFrame readTwo booted).rxLen ≠ 0 ∧
    (booted.rxLen = 0 ∧ booted.baudWritten = true ∧ booted.rxCur < booted.cfg.bufCap ∧ booted.fb.wf = true) ∧
    ({ booted with rxCur := 255 } : State).rxCur < booted.cfg.bufCap ∧
    booted.cfg.bufCap ≤ ({ booted with rxCur := 256 } : State).rxCur ∧
    (State.reset.rxLen = 0 ∧ State.reset.baudWritten = false) := by decide +kernel

/-- Clause by clause: a disarmed timer; a timer at 2, the least count that goes on. -/
theorem witness_TimerTickCountsDown :
    booted.tmrArmed = false ∧
    ({ received readTwo with tmrCnt := 2 } : State).tmrArmed = true ∧
    1 < ({ received readTwo with tmrCnt := 2 } : State).tmrCnt := by decide +kernel

/-- Clause by clause: a latched frame; no address yet; 4 bytes; 5 bytes for a broadcast, for this node, for another. -/
theorem witness_TimerFire :
    (received readTwo).tmrArmed = true ∧ (received readTwo).tmrCnt = 1 ∧
    ({ received readTwo with rxLen := 8 } : State).rxLen ≠ 0 ∧
    ({ received readTwo with slaveAddrWritten := false } : State).slaveAddrWritten = false ∧
    ((received [0x0B, 0x03, 0xAA, 0xBB]).rxLen = 0 ∧ (received [0x0B, 0x03, 0xAA, 0xBB]).rxCur < 5) ∧
    (let s := received [0x00, 0x11, 0x00, 0x0C, 0x52]; 5 ≤ s.rxCur ∧ s.rxCur ≤ s.cfg.bufCap ∧ s.fb.read 0 = some 0) ∧
    (let s := received [0x0B, 0x11, 0x00, 0x0C, 0x52]; s.fb.read 0 = some s.slaveAddr) ∧
    (received [0x0C, 0x11, 0x00, 0x0C, 0x52]).fb.read 0 = some 0x0C ∧ (0x0C : Byte) ≠ 0 ∧ booted.slaveAddr ≠ 0x0C := by
  decide +kernel

theorem witness_TimerFiresAtTheReloadCount :
    (let s : State := { received readTwo with tmrCnt := 3, inputs := [.operation ⟨6, 0⟩, .operation ⟨6, 0⟩] }
     configOk s = true ∧ s.tmrArmed = true ∧ 2 < s.tmrCnt ∧
        s.inputs = operationInputs (List.replicate 2 .tmrTick) ++ []) ∧
    (let s : State := { received readTwo with inputs := [.operation ⟨6, 0⟩] }
     configOk s = true ∧ s.tmrArmed = true ∧ 1 ≤ s.tmrCnt ∧
        s.inputs = operationInputs (List.replicate s.tmrCnt .tmrTick) ++ []) := by decide +kernel

/-- The least rate; and, with a configuration, both lower bounds on a count. -/
theorem witness_SilencePeriod :
    1 ≤ (1 : Nat) ∧ 7 * Config.example95.charBits * Config.example95.fTmr ≤ 2 * 22000 * 1750 ∧
      7 * Config.example95.fTmr ≤ 4000 * 1750 := by decide +kernel

/-- A step that latches a frame, from a state with the invariant. Also for `EveryStepKeepsTheInvariant` and
`ConfigurationIsFixedForARun`. -/
theorem witness_OnlyAnAddressedFrameIsLatched :
    Inv (coming (.operation ⟨6, 0⟩) (received readTwo)) ∧
    after (step (coming (.operation ⟨6, 0⟩) (received readTwo))) (fun t => decide (t.rxLen ≠ 0)) = some true ∧
    (coming (.operation ⟨6, 0⟩) (received readTwo)).rxLen = 0 :=
  ⟨inv_of_check (by decide +kernel), by decide +kernel, by decide +kernel⟩

/-- Both outcomes: a byte that leaves the frame latched; LOOP.ITER and a system reset, which release it. -/
theorem witness_LatchedFrameStays :
    (∀ e ∈ [Input.operation ⟨5, 0x0B⟩, .operation ⟨0xA, 0⟩, .systemReset Launch.example95],
      Inv (coming e (latchedFrame readTwo booted))) ∧
    [Input.operation ⟨5, 0x0B⟩, .operation ⟨0xA, 0⟩, .systemReset Launch.example95].map
      (fun e => after (step (coming e (latchedFrame readTwo booted))) (·.rxLen)) = [some 8, some 0, some 0] := by
  refine ⟨fun e he => inv_of_check ?_, by decide +kernel⟩
  revert e
  decide +kernel

theorem witness_LoopIterationWithoutFrame : booted.rxLen = 0 := by decide

/-- The frame of V41. -/
theorem witness_CrcMismatch :
    LatchedFrame (latchedFrame [0x0B, 0x03, 0x00, 0x00, 0x00, 0x02, 0xC4, 0xA0] booted)
      [0x0B, 0x03, 0x00, 0x00, 0x00, 0x02, 0xC4, 0xA0] ∧
    crcOk [0x0B, 0x03, 0x00, 0x00, 0x00, 0x02, 0xC4, 0xA0] = false :=
  ⟨⟨rfl, by decide, rfl⟩, by decide +kernel⟩

/-- One frame for each clause: V44, V46a, V46 with a shorter frame, and function 0x17 in 12 bytes. -/
theorem witness_WrongLength :
    (∀ f ∈ [withCrc [0x0B, 0x03, 0x00, 0x00, 0x00], withCrc [0x0B, 0x16, 0x00, 0x02, 0x00, 0xF2, 0x00],
        withCrc [0x0B, 0x10, 0x00, 0x00, 0x00, 0x02, 0x04, 0x00, 0x01, 0x00],
        withCrc [0x0B, 0x17, 0x00, 0x00, 0x00, 0x01, 0x00, 0x00, 0x00, 0x00]],
      crcOk f = true ∧ decodeRequest f = .error .malformedLength) ∧
    LatchedFrame (latchedFrame (withCrc [0x0B, 0x03, 0x00, 0x00, 0x00]) booted) (withCrc [0x0B, 0x03, 0x00, 0x00, 0x00]) ∧
    (byteAt (withCrc [0x0B, 0x03, 0x00, 0x00, 0x00]) 1 = 0x03 ∧ (withCrc [0x0B, 0x03, 0x00, 0x00, 0x00]).length ≠ 8) ∧
    (byteAt (withCrc [0x0B, 0x16, 0x00, 0x02, 0x00, 0xF2, 0x00]) 1 = 0x16 ∧
      (withCrc [0x0B, 0x16, 0x00, 0x02, 0x00, 0xF2, 0x00]).length ≠ 10) ∧
    (withCrc [0x0B, 0x10, 0x00, 0x00, 0x00, 0x02, 0x04, 0x00, 0x01, 0x00]).length
      ≠ 9 + (byteAt (withCrc [0x0B, 0x10, 0x00, 0x00, 0x00, 0x02, 0x04, 0x00, 0x01, 0x00]) 6).toNat ∧
    (withCrc [0x0B, 0x17, 0x00, 0x00, 0x00, 0x01, 0x00, 0x00, 0x00, 0x00]).length < 13 :=
  ⟨by decide +kernel, ⟨rfl, by decide, rfl⟩, by decide +kernel, by decide +kernel, by decide +kernel, by decide +kernel⟩

/-- A latched CRC-valid frame that decodes, and the next state LOOP.ITER gives. Also for
`WatchdogIsKickedByEveryValidFrame`, `EveryDispatchCompletesAndReleases`, `LoopIterationFrame`, `EveryResponseVerifies`
and `EncodeInvertsDecodeOfFrames`. -/
theorem witness_LoopIterationRunsTheLatchedRequest :
    LatchedFrame (latchedFrame readTwo booted) readTwo ∧ crcOk readTwo = true ∧
    decodeRequest readTwo = .ok (.rhr 0x0B 0 2) ∧ (loop readTwo booted |> (after · fun _ => ())) = some () :=
  ⟨latched_readTwo, by decide +kernel, by decide +kernel, by decide +kernel⟩

/-- The largest timeout the statement admits, half the tick's range, and the tick at its end. -/
theorem witness_WatchdogHasNotExpired :
    let s : State := { latchedFrame readTwo booted with
      tickMs := 2 ^ 32 - 1, cfg := { Config.example95 with wdgTimeoutMs := 2 ^ 31 } }
    LatchedFrame s readTwo ∧ crcOk readTwo = true ∧ s.tickMs < 2 ^ s.cfg.tickW ∧ 1 ≤ s.cfg.tickW ∧
      1 ≤ s.cfg.wdgTimeoutMs ∧ s.cfg.wdgTimeoutMs ≤ 2 ^ (s.cfg.tickW - 1) ∧
      after (exec .loopIter s) (fun _ => ()) = some () :=
  ⟨⟨rfl, by decide, rfl⟩, by decide +kernel, by decide +kernel, by decide +kernel, by decide +kernel, by decide +kernel,
    by decide +kernel⟩

/-- A silenced broadcast (V48); the other clauses have the frames of V41, V44 and X1 above. -/
theorem witness_EveryResponseVerifies :
    let s : State := { latchedFrame [0x00, 0x06, 0x00, 0x01, 0x00, 0x07, 0x98, 0x19] booted with
      cfg := { Config.example95 with bcastRespond := false } }
    LatchedFrame s [0x00, 0x06, 0x00, 0x01, 0x00, 0x07, 0x98, 0x19] ∧ s.cfg.bcastRespond = false ∧
      after (exec .loopIter s) (fun t => (t.tx, t.hold[1]?)) = some ([], some 7) :=
  ⟨⟨rfl, by decide, rfl⟩, rfl, by decide +kernel⟩

/-- A flip in the payload and a flip in the CRC field. -/
theorem witness_SingleBitError :
    crcOk readTwo = true ∧ Config.minFrame ≤ readTwo.length ∧
    OneBitApart readTwo [0x0B, 0x03, 0x00, 0x00, 0x00, 0x03, 0xC4, 0xA1] ∧
    OneBitApart readTwo [0x0B, 0x03, 0x00, 0x00, 0x00, 0x02, 0xC4, 0x21] ∧
    LatchedFrame (latchedFrame [0x0B, 0x03, 0x00, 0x00, 0x00, 0x03, 0xC4, 0xA1] booted)
      [0x0B, 0x03, 0x00, 0x00, 0x00, 0x03, 0xC4, 0xA1] :=
  ⟨by decide +kernel, by decide,
    ⟨[0x0B, 0x03, 0x00, 0x00, 0x00], 0x02, [0xC4, 0xA1], 0, by decide, by decide, by decide⟩,
    ⟨[0x0B, 0x03, 0x00, 0x00, 0x00, 0x02, 0xC4], 0xA1, [], 7, by decide, by decide, by decide⟩, ⟨rfl, by decide, rfl⟩⟩

theorem witness_UnsupportedFunction :
    LatchedFrame (latchedFrame [0x0B, 0x11, 0x00, 0x0C, 0x52] booted) [0x0B, 0x11, 0x00, 0x0C, 0x52] ∧
    crcOk [0x0B, 0x11, 0x00, 0x0C, 0x52] = true ∧
    byteAt [0x0B, 0x11, 0x00, 0x0C, 0x52] 1 ∉ [0x02#8, 0x03#8, 0x04#8, 0x06#8, 0x10#8, 0x16#8, 0x17#8] :=
  ⟨⟨rfl, by decide, rfl⟩, by decide +kernel, by decide⟩

/-- At the last index and one past it, for each bank (sizes 16, 8 and 16). -/
theorem witness_ReadRangeExceptions :
    booted.disc.length ≤ (16 : U16).toNat ∧ (15 : U16).toNat < booted.disc.length ∧ (0 : U16) = 0 ∧
    (1 : U16) ≠ 0 ∧ booted.disc.length < (15 : U16).toNat + (2 : U16).toNat ∧
    booted.inp.length ≤ (8 : U16).toNat ∧ (7 : U16).toNat < booted.inp.length ∧
    booted.inp.length < (7 : U16).toNat + (2 : U16).toNat ∧
    booted.hold.length ≤ (16 : U16).toNat ∧ (15 : U16).toNat < booted.hold.length ∧
    booted.hold.length < (15 : U16).toNat + (2 : U16).toNat := by decide +kernel

/-- The whole of each bank, and the last cell. -/
theorem witness_Reads :
    1 ≤ (16 : U16).toNat ∧ (0 : U16).toNat + (16 : U16).toNat ≤ readBanks.disc.length ∧
    (7 : U16).toNat + (1 : U16).toNat ≤ readBanks.inp.length ∧
    (0 : U16).toNat + (16 : U16).toNat ≤ readBanks.hold.length := by decide +kernel

/-- Clause by clause: past the bank; an equal value; another value with either answer of the store. -/
theorem witness_SingleWrites :
    booted.hold.length ≤ (16 : U16).toNat ∧ booted.hold[(15 : U16).toNat]? = some 0 ∧ (0 : U16) ≠ 7 ∧
    nextAnswer booted.nvAnswers Config.freeNvAnswer booted.nvTrace.length = .ok ∧
    nextAnswer [.fail] Config.freeNvAnswer booted.nvTrace.length = .fail ∧
    ((0x12 : U16) &&& 0xF2) ||| (0x25 &&& ~~~0xF2) ≠ 0x12 ∧ ((0x17 : U16) &&& 0xF2) ||| (0x25 &&& ~~~0xF2) = 0x17 := by
  decide +kernel

/-- Clause by clause, at the edge of the bank of 16. -/
theorem witness_WriteRangeExceptions :
    booted.hold.length < (15 : U16).toNat + (2 : U16).toNat ∧
    (15 : U16).toNat + (1 : U16).toNat ≤ booted.hold.length ∧ [(0x00 : Byte)].length ≠ 2 * (1 : U16).toNat ∧
    booted.hold.length ≤ (16 : U16).toNat ∧ (15 : U16).toNat < booted.hold.length ∧ (1 : U16) ≠ 0 := by decide +kernel

/-- The whole bank, the empty write, and a write that fails. -/
theorem witness_MultipleWrites :
    (15 : U16).toNat + (1 : U16).toNat ≤ booted.hold.length ∧ [(0x00 : Byte), 0x07].length = 2 * (1 : U16).toNat ∧
    1 ≤ (1 : U16).toNat ∧ (∀ k, k < (1 : U16).toNat → booted.nvAnswers[k]? = some .ok) ∧
    after (exec (.wmr 0x0B 15 1 [0x00, 0x07]) { booted with nvAnswers := [.fail] }) (fun t => t.hold[15]?) = some (some 0) ∧
    (16 : U16).toNat + (0 : U16).toNat ≤ booted.hold.length := by decide +kernel

/-- Clause by clause: no upgrade; either answer of the image pipeline; the first overlay index. -/
theorem witness_OverlayWrite :
    0x1000 ≤ (0x1000 : U16).toNat ∧ booted.upgInProgress = false ∧
    ({ booted with upgInProgress := true } : State).upgInProgress = true ∧
    nextAnswer booted.imgAnswers Config.freeImgAnswer booted.imgTrace.length = .ok ∧
    nextAnswer [.fail] Config.freeImgAnswer booted.imgTrace.length = .fail := by decide +kernel

/-- Every request, one of each, completes from the booted state; a write changes a cell. Also for
`HoldingChangesOnlyWithPersistence` and `NoOperationWritesTheReadOnlyBanks`. -/
theorem witness_RequestFrames :
    ([.rdi 0x0B 0 1, .rir 0x0B 0 1, .rhr 0x0B 0 1, .wsr 0x0B 1 7, .wmr 0x0B 1 1 [0x00, 0x07],
        .rwm 0x0B 0 1 1 1 [0x00, 0x07], .mwr 0x0B 1 0 7, .wmrOvl 0x0B 0x1000 1 [0x00, 0x07],
        .illegal 0x0B 0x11 [0x00]] : List Instr).map
      (fun i => (i.isRequest, after (exec i { booted with upgInProgress := true }) (fun t => t.hold[1]?)))
      = [(true, some (some 0)), (true, some (some 0)), (true, some (some 0)), (true, some (some 7)),
        (true, some (some 7)), (true, some (some 7)), (true, some (some 7)), (true, some (some 0)),
        (true, some (some 0))] := by decide +kernel

/-- Both ways `TX` changes, and a step that answers next. -/
theorem witness_OnlyTheMainLoopTransmits :
    after (step (coming (.operation ⟨0xA, 0⟩) (latchedFrame readTwo booted))) (fun t => t.tx.length) = some 1 ∧
    after (step (coming (.systemReset Launch.example95) { booted with tx := [[0x0B]] })) (·.tx) = some [] := by
  decide +kernel

/-- A fault is reachable only from a state without the invariant: here one cell of the latched frame is missing. -/
theorem witness_NoReachableStepFaults :
    Inv booted ∧ step (coming (.operation ⟨0xA, 0⟩) { booted with rxLen := 5, rxCur := 5 })
      = .fault (.unwrittenFrameByte 0) := ⟨booted_inv, rfl⟩

/-- The premises of both statements about the upper bound of I4, and the step that breaks it. -/
theorem witness_TimerCount :
    let s := coming (.operation ⟨8, 115200⟩) { received readTwo with tmrCnt := 4011 }
    Inv s ∧ CountWithinReload s ∧ after (step s) (fun t => (t.tmrCnt, t.t35Reload)) = some (4011, 1750) ∧
    Inv (coming (.operation ⟨7, 0⟩) (received readTwo)) ∧ CountWithinReload (coming (.operation ⟨7, 0⟩) (received readTwo)) ∧
    after (step (coming (.operation ⟨7, 0⟩) (received readTwo))) (·.tickMs) = some 1 :=
  ⟨inv_of_check (by decide +kernel), fun _ => by decide +kernel, by decide +kernel, inv_of_check (by decide +kernel),
    fun _ => by decide +kernel, by decide +kernel⟩

theorem witness_InterruptSideIsInert : Inv (latchedFrame readTwo booted) ∧ (latchedFrame readTwo booted).rxLen ≠ 0 :=
  ⟨latched_inv, by decide⟩

/-- The longest data of each kind, and the shortest illegal frame. -/
theorem witness_DecodeInvertsEncode :
    (Instr.wmr 0x0B 0x0FFF 127 (List.replicate 255 0)).wf = true ∧
    (Instr.wmrOvl 0x0B 0x1000 127 (List.replicate 255 0)).wf = true ∧
    (Instr.rwm 0x0B 0 1 0 127 (List.replicate 255 0)).wf = true ∧ (Instr.illegal 0x0B 0x11 [0]).wf = true ∧
    (Instr.cfgBaud 1).wf = true := by decide +kernel

theorem witness_ReservedCodes : 0xB ≤ (0xB : Nibble).toNat ∧ 0xB ≤ (0xF : Nibble).toNat := by decide

theorem witness_StepRunsTheDecodedOperation :
    configOk (coming (.operation ⟨7, 0⟩) booted) = true ∧
    (coming (.operation ⟨7, 0⟩) booted).inputs = .operation ⟨7, 0⟩ :: [] ∧ decodeOperation ⟨7, 0⟩ = .ok .msTick := by
  decide +kernel

/-- Clause by clause, at the first size that is too large and the first that is too small. -/
theorem witness_StepRefuses :
    2000 < (List.replicate 2001 false).length ∧ 125 < (List.replicate 126 (0 : U16)).length ∧ (4 : Nat) < 5 ∧
    configOk { booted with disc := List.replicate 2000 false, inp := List.replicate 125 0 } = true ∧
    configOk { booted with hold := [] } = false ∧ booted.inputs = [] ∧
    (coming (.operation ⟨5, 256⟩) booted).inputs = .operation ⟨5, 256⟩ :: [] ∧
    decodeOperation ⟨5, 256⟩ = .error .operandTooWide := by decide +kernel

/-- The last cell of each bank and one past it. -/
theorem witness_Collaborators :
    configOk booted = true ∧ 15 < booted.disc.length ∧ 7 < booted.inp.length ∧ 15 < booted.hold.length ∧
    booted.hold.length ≤ 16 ∧ (coming (.setHolding 15 7) booted).inputs = .setHolding 15 7 :: [] ∧
    after (step (coming (.setHolding 15 7) booted)) (fun t => t.hold[15]?) = some (some 7) ∧
    refusal (step (coming (.setHolding 16 7) booted)) = some .bankIndexOutOfRange := by decide +kernel

theorem witness_SystemReset :
    configOk (coming (.systemReset Launch.example95) booted) = true ∧
    (coming (.systemReset Launch.example95) booted).inputs = .systemReset Launch.example95 :: [] ∧
    Launch.example95.disc.length = booted.disc.length ∧ Launch.example95.inp.length = booted.inp.length ∧
    Launch.example95.hold.length = booted.hold.length := by decide +kernel

theorem witness_ResetLeaves :
    ({ Launch.example95 with tickMs := 2 ^ 32 - 1 } : Launch).tickMs < 2 ^ Config.example95.tickW := by
  decide +kernel

end Sys2Proof.Tests
end

section
/-! PROOFS. The rules of the two CRC engines: what a round does to each bit, what a step does, what a byte sequence
does (40_crc.md R151, R152, R157, R158). -/

namespace Sys2Proof.Machine

/-! ### The reflected engine -/

/-- A round shifts right by one and feeds the lost bit back through the polynomial. -/
theorem crc16rRound_getLsbD (c : U16) (i : Nat) :
    (crc16rRound c).getLsbD i = (c.getLsbD (1 + i) ^^ (c.getLsbD 0 && polyR.getLsbD i)) := by
  cases h : c.getLsbD 0 <;> simp [crc16rRound, h, -BitVec.getLsbD_eq_getElem]

/-- Bit 15 of the polynomial is set, so bit 15 of the result is the bit that was shifted out, and no bit is lost. -/
theorem crc16rRound_injective : Function.Injective crc16rRound := by
  intro c d h
  have hbit (i : Nat) : (c.getLsbD (1 + i) ^^ (c.getLsbD 0 && polyR.getLsbD i)) =
      (d.getLsbD (1 + i) ^^ (d.getLsbD 0 && polyR.getLsbD i)) := by
    rw [← crc16rRound_getLsbD, ← crc16rRound_getLsbD, h]
  have hlow : c.getLsbD 0 = d.getLsbD 0 := by simpa [polyR] using hbit 15
  refine BitVec.eq_of_getLsbD_eq fun i _ => ?_
  cases i with
  | zero => exact hlow
  | succ i => simpa [hlow, Nat.add_comm 1 i, -BitVec.getLsbD_eq_getElem] using hbit i

theorem crc16rRounds_injective (n : Nat) : Function.Injective (crc16rRounds n) := by
  induction n with
  | zero => exact Function.injective_id
  | succ n ih => exact ih.comp crc16rRound_injective

/-- While the bits that leave are clear, the polynomial never enters: the rounds are a shift. -/
theorem crc16rRounds_of_low_clear (n : Nat) {c : U16} (h : ∀ i < n, c.getLsbD i = false) :
    crc16rRounds n c = c >>> n := by
  induction n generalizing c with
  | zero => simp [crc16rRounds]
  | succ n ih =>
    have hround : crc16rRound c = c >>> 1 := if_neg (by simp [h 0 (by omega), -BitVec.getLsbD_eq_getElem])
    have hclear : ∀ i < n, (c >>> 1).getLsbD i = false := fun i hi => by
      simpa using h (1 + i) (by omega)
    rw [crc16rRounds, hround, ih hclear, ← BitVec.shiftRight_add, Nat.add_comm]

theorem crc16rStep_injective_acc (b : Byte) : Function.Injective fun c => crc16rStep c b :=
  fun _ _ h => BitVec.xor_left_inj _ |>.mp (crc16rRounds_injective 8 h)

theorem crc16rStep_bijective_acc (b : Byte) : Function.Bijective fun c => crc16rStep c b :=
  have : Finite U16 := Finite.of_equiv _ BitVec.equivFin.symm.toEquiv
  Finite.injective_iff_bijective.mp (crc16rStep_injective_acc b)

theorem crc16rStep_injective_byte (c : U16) : Function.Injective fun b => crc16rStep c b := by
  intro a b h
  have hwide : a.setWidth 16 = b.setWidth 16 := BitVec.xor_right_inj _ |>.mp (crc16rRounds_injective 8 h)
  simpa using congrArg (BitVec.setWidth 8) hwide

/-- Folding in the accumulator's own low byte leaves its high byte. -/
theorem crc16rStep_lo8 (c : U16) : crc16rStep c (lo8 c) = (hi8 c).setWidth 16 := by
  have hclear : ∀ i < 8, (c ^^^ (lo8 c).setWidth 16).getLsbD i = false := by
    intro i hi
    simp [hi, show i < 16 by omega, -BitVec.getLsbD_eq_getElem]
  rw [crc16rStep, crc16rRounds_of_low_clear 8 hclear]
  refine BitVec.eq_of_getLsbD_eq fun i hi => ?_
  simp only [BitVec.getLsbD_ushiftRight, BitVec.getLsbD_xor, BitVec.getLsbD_setWidth, lo8_getLsbD, hi8_getLsbD]
  by_cases h8 : i < 8
  · simp [h8, hi]
  · simp [h8, BitVec.getLsbD_of_ge c (8 + i) (by omega)]

/-- Folding in a byte equal to the accumulator gives 0. -/
theorem crc16rStep_setWidth_self (b : Byte) : crc16rStep (b.setWidth 16) b = 0 := by
  rw [crc16rStep, BitVec.xor_self]
  decide

theorem crc16r_append (seed : U16) (x y : List Byte) : crc16r seed (x ++ y) = crc16r (crc16r seed x) y := by
  induction x generalizing seed with
  | nil => rfl
  | cons b x ih => exact ih _

theorem crc16r_injective_seed (x : List Byte) : Function.Injective fun seed => crc16r seed x := by
  induction x with
  | nil => exact Function.injective_id
  | cons b x ih => exact ih.comp (crc16rStep_injective_acc b)

/-- Data followed by its own CRC, low byte first, has CRC 0. -/
theorem crc16r_append_crc (seed : U16) (x : List Byte) :
    crc16r seed (x ++ [lo8 (crc16r seed x), hi8 (crc16r seed x)]) = 0 := by
  simp only [crc16r_append, crc16r, crc16rStep_lo8, crc16rStep_setWidth_self]

/-- Two sequences that differ in one byte have different CRCs. -/
theorem crc16r_ne_of_byte_ne (seed : U16) (pre post : List Byte) {a b : Byte} (h : a ≠ b) :
    crc16r seed (pre ++ a :: post) ≠ crc16r seed (pre ++ b :: post) := by
  rw [crc16r_append, crc16r_append]
  exact fun heq => h (crc16rStep_injective_byte _ (crc16r_injective_seed post heq))

theorem OneBitApart.length_eq {x y : List Byte} (h : OneBitApart x y) : x.length = y.length := by
  obtain ⟨pre, b, post, k, -, rfl, rfl⟩ := h
  simp

theorem xor_twoPow_ne_self (b : Byte) {k : Nat} (hk : k < 8) : b ^^^ BitVec.twoPow 8 k ≠ b := by
  intro h
  simpa [hk] using congrArg (BitVec.getLsbD · k) h

theorem mbcrc_ne_of_oneBitApart {x y : List Byte} (h : OneBitApart x y) : mbcrc x ≠ mbcrc y := by
  obtain ⟨pre, b, post, k, hk, rfl, rfl⟩ := h
  exact crc16r_ne_of_byte_ne initR pre post (xor_twoPow_ne_self b hk).symm

/-! ### A frame and its CRC field -/

/-- A frame that passes the check is the body it carries, with the body's CRC. -/
theorem withCrc_take_of_crcOk {frame : List Byte} (hlen : 2 ≤ frame.length) (h : crcOk frame = true) :
    withCrc (frame.take (frame.length - 2)) = frame := by
  obtain ⟨body, l, hc, rfl⟩ : ∃ body l hc, frame = body ++ [l, hc] := by
    have hdrop : (frame.drop (frame.length - 2)).length = 2 := by simp; omega
    obtain ⟨l, hc, heq⟩ := List.length_eq_two.mp hdrop
    exact ⟨_, l, hc, by rw [← heq, List.take_append_drop]⟩
  have hfield : l = lo8 (mbcrc body) ∧ hc = hi8 (mbcrc body) := by simpa [crcOk, byteAt] using h
  obtain ⟨rfl, rfl⟩ := hfield
  simp [withCrc]

/-- R156 (b): the CRC of a whole frame that passes the check is 0. -/
theorem mbcrc_eq_zero_of_crcOk {frame : List Byte} (hlen : 2 ≤ frame.length) (h : crcOk frame = true) :
    mbcrc frame = 0 := by
  rw [← withCrc_take_of_crcOk hlen h]
  exact crc16r_append_crc initR _

/-- Both frames would have the CRC 0, and they differ in one bit. -/
theorem crcOk_eq_false_of_oneBitApart {sent received : List Byte} (hlen : 2 ≤ sent.length)
    (hsent : crcOk sent = true) (h : OneBitApart sent received) : crcOk received = false := by
  refine Bool.eq_false_iff.mpr fun hreceived => mbcrc_ne_of_oneBitApart h ?_
  rw [mbcrc_eq_zero_of_crcOk hlen hsent, mbcrc_eq_zero_of_crcOk (h.length_eq ▸ hlen) hreceived]

/-! ### The forward engine -/

/-- A round shifts left by one, takes in a bit and feeds the lost bit back through the polynomial. -/
theorem crc16fRound_eq (p c : U16) (bit : Bool) :
    crc16fRound p c bit = (c.concat bit).setWidth 16 ^^^ (if c.getLsbD 15 then p else 0) := by
  have hshift : (c <<< 1) ||| (BitVec.ofBool bit).setWidth 16 = (c.concat bit).setWidth 16 := by
    refine BitVec.eq_of_getLsbD_eq fun i hi => ?_
    cases i <;> simp [BitVec.getLsbD_concat, hi, -BitVec.getLsbD_eq_getElem]
  unfold crc16fRound
  rw [hshift]
  split <;> simp

/-- A round is linear over GF(2) in the accumulator and the incoming bit together. -/
theorem crc16fRound_xor (p c d : U16) (a b : Bool) :
    crc16fRound p (c ^^^ d) (a ^^ b) = crc16fRound p c a ^^^ crc16fRound p d b := by
  have hshift : ((c ^^^ d).concat (a ^^ b)).setWidth 16 = (c.concat a).setWidth 16 ^^^ (d.concat b).setWidth 16 := by
    rw [← BitVec.setWidth_xor, BitVec.concat_xor_concat]
  have hfeedback : (if (c ^^^ d).getLsbD 15 then p else 0) =
      (if c.getLsbD 15 then p else 0) ^^^ (if d.getLsbD 15 then p else 0) := by
    rw [BitVec.getLsbD_xor]
    cases c.getLsbD 15 <;> cases d.getLsbD 15 <;> simp
  rw [crc16fRound_eq, crc16fRound_eq, crc16fRound_eq, hshift, hfeedback]
  ac_rfl

/-- A step is linear in the accumulator and the byte together. -/
theorem crc16fStep_xor (p c d : U16) (a b : Byte) :
    crc16fStep (c ^^^ d) (a ^^^ b) p = crc16fStep c a p ^^^ crc16fStep d b p := by
  simp only [crc16fStep, bitsMsbFirst, List.foldl_cons, List.foldl_nil, BitVec.getLsbD_xor, crc16fRound_xor]

/-- As long as only clear bits leave at the top, nothing is fed back: the bits are shifted in, the last one lowest. -/
theorem foldl_crc16fRound_getLsbD (p : U16) {c : U16} (bits : List Bool) (hlen : bits.length ≤ 16)
    (h : ∀ k, 16 - bits.length ≤ k → c.getLsbD k = false) {i : Nat} (hi : i < 16) :
    (bits.foldl (crc16fRound p) c).getLsbD i = bits.reverse.getD i (c.getLsbD (i - bits.length)) := by
  induction bits using List.reverseRecOn generalizing i with
  | nil => simp
  | append_singleton bits bit ih =>
    rw [List.length_append, List.length_singleton] at hlen h ⊢
    have ih' {j : Nat} (hj : j < 16) := ih (by omega) (fun k hk => h k (by omega)) hj
    have htop : (bits.foldl (crc16fRound p) c).getLsbD 15 = false := by
      rw [ih' (by omega), List.getD_eq_default _ _ (by simp; omega)]
      exact h _ (by omega)
    rw [List.foldl_append, List.foldl_cons, List.foldl_nil, crc16fRound_eq, htop]
    cases i with
    | zero => simp
    | succ i => simpa [BitVec.getLsbD_concat, hi, -BitVec.getLsbD_eq_getElem] using ih' (j := i) (by omega)

theorem bitsMsbFirst_reverse_getD (b : Byte) (i : Nat) (d : Bool) :
    (bitsMsbFirst b).reverse.getD i d = if i < 8 then b.getLsbD i else d := by
  match i with
  | 0 | 1 | 2 | 3 | 4 | 5 | 6 | 7 => rfl
  | i + 8 => simp [bitsMsbFirst]

/-- With a clear high byte nothing is fed back: the byte is shifted in. -/
theorem crc16fStep_of_hi8_eq_zero (p : U16) {c : U16} (b : Byte) (h : hi8 c = 0) :
    crc16fStep c b p = be16 (lo8 c) b := by
  have hclear (k : Nat) (hk : 8 ≤ k) : c.getLsbD k = false := by
    by_cases hlt : k < 16
    · have hbit : (hi8 c).getLsbD (k - 8) = false := by rw [h]; simp
      rwa [hi8_getLsbD, decide_eq_true (by omega), Bool.true_and, Nat.add_sub_cancel' hk] at hbit
    · exact BitVec.getLsbD_of_ge c k (by omega)
  refine BitVec.eq_of_getLsbD_eq fun i hi => ?_
  rw [crc16fStep, foldl_crc16fRound_getLsbD p (bitsMsbFirst b) (by simp [bitsMsbFirst]) hclear hi,
    bitsMsbFirst_reverse_getD, be16_getLsbD, lo8_getLsbD]
  simp [bitsMsbFirst, show i - 8 < 8 by omega]

theorem crc16fStep_zero_zero (p : U16) : crc16fStep 0 0 p = 0 := by
  rw [crc16fStep_of_hi8_eq_zero p 0 (by decide)]
  decide

theorem crc16f_append (seed p : U16) (x y : List Byte) : crc16f seed (x ++ y) p = crc16f (crc16f seed x p) y p := by
  induction x generalizing seed with
  | nil => rfl
  | cons b x ih => exact ih _

/-- A byte is the sum of itself three times, so one step on the sum of three accumulators is the sum of the steps. -/
theorem crc16fStep_xor_xor (p s t u : U16) (b : Byte) :
    crc16fStep (s ^^^ t ^^^ u) b p = crc16fStep s b p ^^^ crc16fStep t b p ^^^ crc16fStep u b p := by
  rw [← crc16fStep_xor, ← crc16fStep_xor, BitVec.xor_self, BitVec.zero_xor]

theorem crc16f_xor_xor (p s t u : U16) (x : List Byte) :
    crc16f (s ^^^ t ^^^ u) x p = crc16f s x p ^^^ crc16f t x p ^^^ crc16f u x p := by
  induction x generalizing s t u with
  | nil => rfl
  | cons b x ih => rw [crc16f, crc16fStep_xor_xor, ih]; rfl

/-- The third accumulator is 0. -/
theorem crc16f_xor_seed (s t p : U16) (x : List Byte) :
    crc16f (s ^^^ t) x p = crc16f s x p ^^^ crc16f t x p ^^^ crc16f 0 x p := by
  simpa using crc16f_xor_xor p s t 0 x

/-- From seed 0 two bytes are just shifted in. -/
theorem crc16f_zero_pair (p : U16) (h l : Byte) : crc16f 0 [h, l] p = be16 h l := by
  have hfirst : crc16fStep 0 h p = be16 0 h := crc16fStep_of_hi8_eq_zero p h (by decide)
  have hsecond : crc16fStep (be16 0 h) l p = be16 h l := by
    rw [crc16fStep_of_hi8_eq_zero p l (hi8_be16 0 h), lo8_be16]
  rw [crc16f, hfirst, crc16f, hsecond, crc16f]

/-- A pair of bytes adds to what two zero bytes leave: the sum of the accumulator's part and the data's part. -/
theorem crc16f_pair (p c : U16) (h l : Byte) : crc16f c [h, l] p = crc16f c [0, 0] p ^^^ be16 h l := by
  rw [← crc16f_zero_pair p]
  simp only [crc16f, ← crc16fStep_xor, BitVec.ofNat_eq_ofNat, BitVec.xor_zero, BitVec.zero_xor]

/-- R163 (b): the augmented CRC, high byte first, cancels what the two zero bytes of the augmentation leave. -/
theorem crc16f_append_aug (seed p : U16) (x : List Byte) :
    crc16f seed (x ++ [hi8 (crc16fAug seed x p), lo8 (crc16fAug seed x p)]) p = 0 := by
  rw [crc16f_append, crc16f_pair, be16_hi8_lo8, crc16fAug, BitVec.xor_self]
  rfl

theorem crc16f_replicate_zero_append (n : Nat) (p : U16) (x : List Byte) :
    crc16f 0 (List.replicate n 0 ++ x) p = crc16f 0 x p := by
  induction n with
  | zero => rfl
  | succ n ih => rw [List.replicate_succ, List.cons_append, crc16f, crc16fStep_zero_zero, ih]

/-! ### The statements -/

/-- Settles O5: a step loses no bit, and a frame that passes the check has the CRC 0. -/
theorem reflectedCrcLaws : Obligations.ReflectedCrcLaws :=
  ⟨fun seed x y => (crc16r_append seed x y).symm, crc16r_append_crc, crc16rStep_bijective_acc,
    crc16rStep_injective_byte, fun _ _ => mbcrc_ne_of_oneBitApart, fun _ _ => crcOk_eq_false_of_oneBitApart⟩

/-- Settles O6: a step is linear in the accumulator and the byte together, for every polynomial. -/
theorem forwardCrcLaws : Obligations.ForwardCrcLaws :=
  ⟨fun seed p x y => (crc16f_append seed p x y).symm, crc16f_append_aug 0, crc16f_xor_seed,
    crc16f_replicate_zero_append⟩

end Sys2Proof.Machine
end

section
/-! PROOFS. The frame receiver's operations (41_frame_receiver.md): their operation words and the whole next state. -/

namespace Sys2Proof

/-- An operand that is a word of the operation's own width fits, and is carried unchanged (R112). -/
@[simp] theorem operandOf_toNat {n : Nat} (v : BitVec n) (make : BitVec n → Instr) :
    operandOf n v.toNat make = .ok (make v) := by
  rw [operandOf, if_pos v.isLt, BitVec.ofNat_toNat, BitVec.setWidth_eq]

@[simp] theorem noOperand_zero (i : Instr) : noOperand 0 i = .ok i := if_pos rfl

theorem decodeOperation_rxByte (b : Byte) : decodeOperation ⟨0x5, b.toNat⟩ = .ok (.rxByte b) :=
  operandOf_toNat b .rxByte

theorem decodeOperation_msTick : decodeOperation ⟨0x7, 0⟩ = .ok .msTick := noOperand_zero .msTick

end Sys2Proof

namespace Sys2Proof.Machine

/-- All MS.TICK can do: it has no refusal, and the count wraps at its width (R193). -/
theorem exec_msTick (s : State) : exec .msTick s = .next { s with tickMs := (s.tickMs + 1) % 2 ^ s.cfg.tickW } := rfl

/-! ### The statements -/

/-- Settles O7: the latch, then the written bit, then the room in the buffer single out one of the four cases. -/
theorem receivedByteIsDiscardedOrAppended : Obligations.ReceivedByteIsDiscardedOrAppended := by
  intro s b
  refine ⟨decodeOperation_rxByte b, ?_⟩
  rcases exec_rxByte_cases b s with
    ⟨latched, h⟩ | ⟨idle, unwritten, h⟩ | ⟨idle, written, room, h⟩ | ⟨idle, written, full, h⟩
  · simp [latched, h]
  · simp [idle, unwritten, h]
  · simp [idle, written, room, room.not_ge, h]
  · simp [idle, written, full, full.not_gt, h]

/-- Settles O12: its word carries no operand, and its whole meaning is the one update of `TICK_MS`. -/
theorem millisecondTickWraps : Obligations.MillisecondTickWraps :=
  fun s => ⟨decodeOperation_msTick, exec_msTick s⟩

end Sys2Proof.Machine
end

section
/-! PROOFS. The main-loop operation (42_dispatcher_common.md): what every dispatch leaves in the latch and in the
watchdog deadline. -/

namespace Sys2Proof.Machine

/-- Neither a write to `HOLD` nor an image write touches the watchdog (R226). -/
theorem RequestEffect.wdgDeadline_eq {s t : State} (h : RequestEffect s t) : t.wdgDeadline = s.wdgDeadline := by
  rcases h with kept | ⟨off, bytes, rfl⟩
  · exact kept.wdgDeadline
  · exact imgWrite_wdgDeadline s off bytes

/-- LOOP.ITER on a latched frame is the dispatch of that frame, with the slave address resolved (R221, R222). -/
theorem LatchedFrame.exec_loopIter {s : State} {frame : List Byte} (h : LatchedFrame s frame) :
    exec .loopIter s = dispatch frame (resolveAddr s) := by
  obtain ⟨hlen, hmin, hbytes⟩ := h
  rw [← hlen] at hmin hbytes
  rw [exec_loopIter_latched hmin, hbytes]

/-- A dispatch always completes: the latch is released whatever the outcome (R244), and only the CRC check decides
whether the watchdog is kicked (R225, R226). -/
theorem dispatch_completes (frame : List Byte) (s : State) :
    ∃ t, dispatch frame s = .next t ∧ t.rxLen = 0 ∧ t.rxCur = 0 ∧
      t.wdgDeadline = if crcOk frame then (kickWatchdog s).wdgDeadline else s.wdgDeadline := by
  rcases dispatch_cases frame s with ⟨hcrc, h⟩ | ⟨_, hcrc, -, h⟩ | ⟨i, hcrc, -, hreq, h⟩
  · exact ⟨_, h, rfl, rfl, by simp [hcrc]⟩
  · exact ⟨_, h, rfl, rfl, by simp [hcrc]⟩
  · obtain ⟨body, s', hnext, -, effect⟩ := exec_request_outcome hreq (kickWatchdog s)
    refine ⟨_, h.trans hnext, complete_rxLen .., complete_rxCur .., ?_⟩
    rw [complete_wdgDeadline, effect.wdgDeadline_eq, if_pos hcrc]

/-! ### The statements -/

/-- Settles O22: a latched frame's dispatch kicks exactly when its CRC is right, and an idle iteration only resolves
the address. -/
theorem watchdogIsKickedByEveryValidFrame : Obligations.WatchdogIsKickedByEveryValidFrame := by
  refine fun s t hnext => ⟨fun frame latched => ?_, fun idle => ?_⟩
  · obtain ⟨u, hu, -, -, deadline⟩ := dispatch_completes frame (resolveAddr s)
    rw [latched.exec_loopIter, hu] at hnext
    cases hnext
    exact deadline
  · rw [exec_loopIter_idle idle] at hnext
    cases hnext
    exact resolveAddr_wdgDeadline s

/-- Settles O24: LOOP.ITER on a latched frame is its dispatch, and every dispatch completes. -/
theorem everyDispatchCompletesAndReleases : Obligations.EveryDispatchCompletesAndReleases := by
  intro s frame latched
  obtain ⟨t, ht, len, cur, -⟩ := dispatch_completes frame (resolveAddr s)
  exact ⟨t, latched.exec_loopIter.trans ht, len, cur⟩

end Sys2Proof.Machine
end

section
/-! PROOFS. Exceptions (60_exceptions.md): what taking one sends, and the class of unsupported function bytes. -/

namespace Sys2Proof

/-- The parser's default arm (R130): a function byte outside the seven gives the illegal class, whatever follows it. -/
theorem parseRequest_of_unsupported {frame : List Byte} (h : byteAt frame 1 ∉ supportedFunctions) :
    parseRequest frame = .illegal (byteAt frame 0) (byteAt frame 1) (bytesAt frame 2 (frame.length - 4)) := by
  have hne : ∀ fc ∈ supportedFunctions, (byteAt frame 1).toNat ≠ fc.toNat :=
    fun fc hfc heq => h (BitVec.eq_of_toNat_eq heq ▸ hfc)
  simp only [supportedFunctions, List.mem_cons, List.not_mem_nil, or_false, ne_eq, forall_eq_or_imp, forall_eq,
    BitVec.ofNat_eq_ofNat, BitVec.toNat_ofNat, Nat.reducePow, Nat.reduceMod] at hne
  simp [parseRequest, hne]

/-- The function byte is looked at before the length (R227), so an unsupported one is never dropped. -/
theorem decodeRequest_of_unsupported {frame : List Byte} (hlen : Config.minFrame ≤ frame.length)
    (h : byteAt frame 1 ∉ supportedFunctions) :
    decodeRequest frame =
      .ok (.illegal (byteAt frame 0) (byteAt frame 1) (bytesAt frame 2 (frame.length - 4))) := by
  have hfc : isSupported (byteAt frame 1) = false := by simpa [isSupported] using h
  rw [decodeRequest, if_neg hlen.not_gt, hfc, parseRequest_of_unsupported h]
  rfl

end Sys2Proof

namespace Sys2Proof.Machine

/-- A request of the illegal class does nothing but take exception 1 (R312): no test of the payload, no bank access. -/
theorem exec_illegal (addr fc : Byte) (payload : List Byte) (s : State) :
    exec (.illegal addr fc payload) s = .next (raiseExc addr fc .illegalFunction s) := rfl

/-- A latched frame has at least the minimum length (R26). -/
theorem LatchedFrame.minFrame_le {s : State} {frame : List Byte} (h : LatchedFrame s frame) :
    Config.minFrame ≤ frame.length := by
  obtain ⟨-, hmin, -⟩ := h
  exact hmin

/-- A frame that passes both checks is kicked for and runs as its request (R226, R246). -/
theorem dispatch_of_decodeRequest {frame : List Byte} {i : Instr} (s : State) (hcrc : crcOk frame = true)
    (hdec : decodeRequest frame = .ok i) : dispatch frame s = exec i (kickWatchdog s) := by
  rw [dispatch, if_pos hcrc, hdec]
  exact execRequest_eq_exec (decodeRequest_isRequest hdec) _

/-- An exception response is 5 bytes on the wire (R127): three of the body, two of the CRC. -/
theorem withCrc_excBody_length (addr fc : Byte) (code : ExcCode) : (withCrc (excBody addr fc code)).length = 5 :=
  withCrc_length _

/-! ### The statements -/

/-- Settles O31: no arm of the decoder but the illegal class takes an unsupported function byte, and that class's
meaning is exception 1. -/
theorem unsupportedFunctionGetsExceptionOne : Obligations.UnsupportedFunctionGetsExceptionOne := by
  refine ⟨fun s addr fc payload => exec_illegal addr fc payload s, fun s frame latched hcrc hfc => ?_⟩
  have hdec := decodeRequest_of_unsupported latched.minFrame_le hfc
  rw [latched.exec_loopIter, dispatch_of_decodeRequest _ hcrc hdec, exec_illegal]

/-- Settles O30: an exception's whole effect is the completion with its 3-byte body. -/
theorem exceptionIsAFiveByteResponse : Obligations.ExceptionIsAFiveByteResponse :=
  fun _ addr fc code => ⟨rfl, withCrc_excBody_length addr fc code, rfl, rfl, rfl, rfl⟩

end Sys2Proof.Machine
end

section
/-! PROOFS. Both levels of codes (30_encoding.md): the fields of a frame, the lengths of the formats, and that decoding
and encoding are inverse to each other. -/

namespace Sys2Proof

/-! ### The bytes of a frame -/

/-- Two runs of bytes side by side are one run. -/
theorem bytesAt_append (frame : List Byte) (i m n : Nat) :
    bytesAt frame i m ++ bytesAt frame (i + m) n = bytesAt frame i (m + n) := by
  rw [bytesAt, bytesAt, bytesAt, List.take_add, List.drop_drop]

theorem bytesAt_one {frame : List Byte} {i : Nat} (h : i < frame.length) : bytesAt frame i 1 = [byteAt frame i] := by
  rw [bytesAt, byteAt, List.drop_eq_getElem_cons h, List.getD_eq_getElem _ _ h]
  rfl

/-- Two neighbouring bytes. -/
theorem bytesAt_two {frame : List Byte} {i : Nat} (h : i + 1 < frame.length) :
    bytesAt frame i 2 = [byteAt frame i, byteAt frame (i + 1)] := by
  rw [← bytesAt_append frame i 1 1, bytesAt_one (Nat.lt_of_succ_lt h), bytesAt_one h]
  rfl

/-- A field's two bytes are those it was read from (R90, R128). -/
theorem be16Bytes_fieldAt {frame : List Byte} {i : Nat} (h : i + 1 < frame.length) :
    be16Bytes (fieldAt frame i) = bytesAt frame i 2 := by
  rw [bytesAt_two h, be16Bytes, fieldAt, hi8_be16, lo8_be16]

theorem bytesAt_length {frame : List Byte} {i n : Nat} (h : i + n ≤ frame.length) :
    (bytesAt frame i n).length = n := by
  simp [bytesAt]; omega

/-- A one-byte count of bytes that are there is the number of bytes it counts. -/
theorem countByte_bytesAt {frame : List Byte} {i : Nat} (b : Byte) (h : i + b.toNat ≤ frame.length) :
    BitVec.ofNat 8 (bytesAt frame i b.toNat).length = b := by
  rw [bytesAt_length h, BitVec.ofNat_toNat, BitVec.setWidth_eq]

/-! ### The parser, an equation for each function byte (R119 to R123) -/

theorem parseRequest_02 {frame : List Byte} (h : byteAt frame 1 = 0x02) :
    parseRequest frame = .rdi (byteAt frame 0) (fieldAt frame 2) (fieldAt frame 4) := by
  rw [parseRequest, h]; rfl

theorem parseRequest_03 {frame : List Byte} (h : byteAt frame 1 = 0x03) :
    parseRequest frame = .rhr (byteAt frame 0) (fieldAt frame 2) (fieldAt frame 4) := by
  rw [parseRequest, h]; rfl

theorem parseRequest_04 {frame : List Byte} (h : byteAt frame 1 = 0x04) :
    parseRequest frame = .rir (byteAt frame 0) (fieldAt frame 2) (fieldAt frame 4) := by
  rw [parseRequest, h]; rfl

theorem parseRequest_06 {frame : List Byte} (h : byteAt frame 1 = 0x06) :
    parseRequest frame = .wsr (byteAt frame 0) (fieldAt frame 2) (fieldAt frame 4) := by
  rw [parseRequest, h]; rfl

theorem parseRequest_16 {frame : List Byte} (h : byteAt frame 1 = 0x16) :
    parseRequest frame = .mwr (byteAt frame 0) (fieldAt frame 2) (fieldAt frame 4) (fieldAt frame 6) := by
  rw [parseRequest, h]; rfl

/-- Function 0x10 has two arms by its start index (R282, R284). -/
theorem parseRequest_10 {frame : List Byte} (h : byteAt frame 1 = 0x10) :
    parseRequest frame =
      if Config.ovlBase ≤ (fieldAt frame 2).toNat then
        .wmrOvl (byteAt frame 0) (fieldAt frame 2) (fieldAt frame 4) (bytesAt frame 7 (byteAt frame 6).toNat)
      else .wmr (byteAt frame 0) (fieldAt frame 2) (fieldAt frame 4) (bytesAt frame 7 (byteAt frame 6).toNat) := by
  rw [parseRequest, h]; rfl

theorem parseRequest_17 {frame : List Byte} (h : byteAt frame 1 = 0x17) :
    parseRequest frame =
      .rwm (byteAt frame 0) (fieldAt frame 2) (fieldAt frame 4) (fieldAt frame 6) (fieldAt frame 8)
        (bytesAt frame 11 (byteAt frame 10).toNat) := by
  rw [parseRequest, h]; rfl

/-! ### The length check (R129, R228) -/

/-- The length of a frame is that of a supported function's format. -/
def FormatLength (fc : Byte) (frame : List Byte) : Prop :=
  ((fc = 0x02 ∨ fc = 0x03 ∨ fc = 0x04 ∨ fc = 0x06) ∧ frame.length = 8) ∨
  (fc = 0x16 ∧ frame.length = 10) ∨
  (fc = 0x10 ∧ frame.length = 9 + (byteAt frame 6).toNat) ∨
  (fc = 0x17 ∧ frame.length = 13 + (byteAt frame 10).toNat)

theorem isSupported_iff (fc : Byte) :
    isSupported fc = true ↔
      fc = 0x02 ∨ fc = 0x03 ∨ fc = 0x04 ∨ fc = 0x06 ∨ fc = 0x10 ∨ fc = 0x16 ∨ fc = 0x17 := by
  simp [isSupported, supportedFunctions]

/-- On a supported function the length check is that of its format. -/
theorem lenOk_iff {fc : Byte} (h : isSupported fc = true) (frame : List Byte) :
    lenOk fc frame = true ↔ FormatLength fc frame := by
  rcases (isSupported_iff fc).mp h with rfl | rfl | rfl | rfl | rfl | rfl | rfl <;>
    simp [lenOk, FormatLength] <;> omega

theorem FormatLength.isSupported {fc : Byte} {frame : List Byte} (h : FormatLength fc frame) :
    isSupported fc = true := by
  rw [isSupported_iff]
  unfold FormatLength at h
  tauto

theorem FormatLength.minFrame_le {fc : Byte} {frame : List Byte} (h : FormatLength fc frame) :
    Config.minFrame ≤ frame.length := by
  unfold Config.minFrame
  rcases h with ⟨-, h⟩ | ⟨-, h⟩ | ⟨-, h⟩ | ⟨-, h⟩ <;> omega

/-- A frame of its format's length is parsed. -/
theorem decodeRequest_of_formatLength {frame : List Byte} (h : FormatLength (byteAt frame 1) frame) :
    decodeRequest frame = .ok (parseRequest frame) := by
  have hlen : lenOk (byteAt frame 1) frame = true := (lenOk_iff h.isSupported frame).mpr h
  simp [decodeRequest, h.minFrame_le.not_gt, hlen]

/-- A supported function in a frame of another length is a rejection (R228). -/
theorem decodeRequest_of_not_formatLength {frame : List Byte} (hmin : Config.minFrame ≤ frame.length)
    (hfc : isSupported (byteAt frame 1) = true) (h : ¬FormatLength (byteAt frame 1) frame) :
    decodeRequest frame = .error .malformedLength := by
  have hlen : lenOk (byteAt frame 1) frame = false := by simpa [← lenOk_iff hfc frame] using h
  simp [decodeRequest, hmin.not_gt, hfc, hlen]

/-- What a frame that decodes is: parsed, and either of an unsupported function or of its format's length. -/
theorem decodeRequest_eq_ok {frame : List Byte} {i : Instr} (h : decodeRequest frame = .ok i) :
    i = parseRequest frame ∧ Config.minFrame ≤ frame.length ∧
      (isSupported (byteAt frame 1) = false ∨ FormatLength (byteAt frame 1) frame) := by
  by_cases hmin : Config.minFrame ≤ frame.length
  · cases hfc : isSupported (byteAt frame 1) with
    | false => exact ⟨by simpa [decodeRequest, hmin.not_gt, hfc] using h.symm, hmin, .inl rfl⟩
    | true =>
      by_cases hlen : FormatLength (byteAt frame 1) frame
      · rw [decodeRequest_of_formatLength hlen] at h
        exact ⟨by simpa using h.symm, hmin, .inr hlen⟩
      · rw [decodeRequest_of_not_formatLength hmin hfc hlen] at h
        cases h
  · simp [decodeRequest, Nat.lt_of_not_ge hmin] at h

/-! ### Decoding what was encoded: the fields and the length of an encoded frame are known -/

theorem decodeRequest_rdi (addr : Byte) (start qty : U16) :
    decodeRequest (withCrc (bodyRD addr 0x02 start qty)) = .ok (.rdi addr start qty) := by
  rw [decodeRequest_of_formatLength (.inl ⟨.inl rfl, rfl⟩), parseRequest_02 rfl]
  simp [fieldAt, byteAt, withCrc, bodyRD, be16Bytes]

theorem decodeRequest_rhr (addr : Byte) (start qty : U16) :
    decodeRequest (withCrc (bodyRD addr 0x03 start qty)) = .ok (.rhr addr start qty) := by
  rw [decodeRequest_of_formatLength (.inl ⟨.inr (.inl rfl), rfl⟩), parseRequest_03 rfl]
  simp [fieldAt, byteAt, withCrc, bodyRD, be16Bytes]

theorem decodeRequest_rir (addr : Byte) (start qty : U16) :
    decodeRequest (withCrc (bodyRD addr 0x04 start qty)) = .ok (.rir addr start qty) := by
  rw [decodeRequest_of_formatLength (.inl ⟨.inr (.inr (.inl rfl)), rfl⟩), parseRequest_04 rfl]
  simp [fieldAt, byteAt, withCrc, bodyRD, be16Bytes]

theorem decodeRequest_wsr (addr : Byte) (reg val : U16) :
    decodeRequest (withCrc ([addr, 0x06] ++ be16Bytes reg ++ be16Bytes val)) = .ok (.wsr addr reg val) := by
  rw [decodeRequest_of_formatLength (.inl ⟨.inr (.inr (.inr rfl)), rfl⟩), parseRequest_06 rfl]
  simp [fieldAt, byteAt, withCrc, be16Bytes]

theorem decodeRequest_mwr (addr : Byte) (ref andMask orMask : U16) :
    decodeRequest (withCrc ([addr, 0x16] ++ be16Bytes ref ++ be16Bytes andMask ++ be16Bytes orMask)) =
      .ok (.mwr addr ref andMask orMask) := by
  rw [decodeRequest_of_formatLength (.inr (.inl ⟨rfl, rfl⟩)), parseRequest_16 rfl]
  simp [fieldAt, byteAt, withCrc, be16Bytes]

/-- A byte count of at most 255 fits its field. -/
theorem toNat_countByte {n : Nat} (h : n ≤ 255) : (BitVec.ofNat 8 n).toNat = n :=
  (BitVec.toNat_ofNat n 8).trans (Nat.mod_eq_of_lt (by omega))

/-- Both arms of 0x10. -/
theorem decodeRequest_bodyWM (addr : Byte) (start qty : U16) {data : List Byte} (h : data.length ≤ 255) :
    decodeRequest (withCrc (bodyWM addr start qty data)) =
      .ok (if Config.ovlBase ≤ start.toNat then .wmrOvl addr start qty data else .wmr addr start qty data) := by
  have hcount : (byteAt (withCrc (bodyWM addr start qty data)) 6).toNat = data.length := toNat_countByte h
  rw [decodeRequest_of_formatLength (.inr (.inr (.inl ⟨rfl, by rw [hcount]; simp [bodyWM, be16Bytes]; omega⟩))),
    parseRequest_10 rfl, hcount]
  simp [fieldAt, byteAt, bytesAt, withCrc, bodyWM, be16Bytes]

theorem decodeRequest_rwm (addr : Byte) (rstart rqty wstart wqty : U16) {wdata : List Byte} (h : wdata.length ≤ 255) :
    decodeRequest (withCrc ([addr, 0x17] ++ be16Bytes rstart ++ be16Bytes rqty ++ be16Bytes wstart ++ be16Bytes wqty
      ++ [BitVec.ofNat 8 wdata.length] ++ wdata)) = .ok (.rwm addr rstart rqty wstart wqty wdata) := by
  have hcount : (BitVec.ofNat 8 wdata.length).toNat = wdata.length := toNat_countByte h
  rw [decodeRequest_of_formatLength (.inr (.inr (.inr ⟨rfl, ?_⟩))), parseRequest_17 rfl]
  · simp [fieldAt, byteAt, bytesAt, withCrc, be16Bytes, hcount]
  · simp [byteAt, withCrc, be16Bytes, hcount]
    omega

theorem decodeRequest_illegal (addr : Byte) {fc : Byte} {payload : List Byte} (hfc : isSupported fc = false)
    (h : 1 ≤ payload.length) :
    decodeRequest (withCrc ([addr, fc] ++ payload)) = .ok (.illegal addr fc payload) := by
  have hsecond : byteAt (withCrc ([addr, fc] ++ payload)) 1 = fc := rfl
  rw [decodeRequest_of_unsupported (by simp [Config.minFrame]; omega) (by rw [hsecond]; simpa [isSupported] using hfc)]
  simp [byteAt, bytesAt, withCrc]

theorem decode_encode {i : Instr} (h : i.wf = true) : decode (encode i) = .ok i := by
  cases i
  case crcrSeed seed => exact operandOf_toNat seed .crcrSeed
  case crcrByte b => exact operandOf_toNat b .crcrByte
  case crcfSeed seed => exact operandOf_toNat seed .crcfSeed
  case crcfByte b => exact operandOf_toNat b .crcfByte
  case crcfPoly p => exact operandOf_toNat p .crcfPoly
  case rxByte b => exact decodeOperation_rxByte b
  case tmrTick => exact noOperand_zero .tmrTick
  case msTick => exact decodeOperation_msTick
  case cfgBaud rate => rfl
  case cfgAddr => exact noOperand_zero .cfgAddr
  case loopIter => exact noOperand_zero .loopIter
  case reservedB | reservedC | reservedD | reservedE | reservedF => rfl
  case rdi addr start qty => exact decodeRequest_rdi addr start qty
  case rir addr start qty => exact decodeRequest_rir addr start qty
  case rhr addr start qty => exact decodeRequest_rhr addr start qty
  case wsr addr reg val => exact decodeRequest_wsr addr reg val
  case mwr addr ref andMask orMask => exact decodeRequest_mwr addr ref andMask orMask
  case wmr addr start qty data =>
    obtain ⟨hstart, hlen⟩ : start.toNat < Config.ovlBase ∧ data.length ≤ 255 := by simpa [Instr.wf] using h
    exact (decodeRequest_bodyWM addr start qty hlen).trans (by rw [if_neg hstart.not_ge])
  case wmrOvl addr start qty data =>
    obtain ⟨hstart, hlen⟩ : Config.ovlBase ≤ start.toNat ∧ data.length ≤ 255 := by simpa [Instr.wf] using h
    exact (decodeRequest_bodyWM addr start qty hlen).trans (by rw [if_pos hstart])
  case rwm addr rstart rqty wstart wqty wdata =>
    exact decodeRequest_rwm addr rstart rqty wstart wqty (by simpa [Instr.wf] using h)
  case illegal addr fc payload =>
    obtain ⟨hfc, hlen⟩ : isSupported fc = false ∧ 1 ≤ payload.length := by simpa [Instr.wf] using h
    exact decodeRequest_illegal addr hfc hlen

/-- An encoded frame is a body with its CRC behind it (R115). -/
theorem encode_eq_frame {i : Instr} {frame : List Byte} (h : encode i = .frame frame) :
    ∃ body, frame = withCrc body := by
  cases i <;> cases h <;> exact ⟨_, rfl⟩

/-! ### Encoding what was decoded: the fields side by side are the frame before its CRC -/

/-- A frame that passes the check is given by its bytes before the CRC. -/
theorem withCrc_bytesAt_of_crcOk {frame : List Byte} {n : Nat} (hlen : frame.length = n + 2)
    (h : Machine.crcOk frame = true) : withCrc (bytesAt frame 0 n) = frame := by
  have hbody := Machine.withCrc_take_of_crcOk (by omega) h
  rwa [hlen, Nat.add_sub_cancel] at hbody

/-- Two bytes and two fields: the body of 0x02, 0x03, 0x04 and 0x06 (R119, R120). -/
theorem bodyRD_fieldAt {frame : List Byte} (hlen : 6 ≤ frame.length) :
    bodyRD (byteAt frame 0) (byteAt frame 1) (fieldAt frame 2) (fieldAt frame 4) = bytesAt frame 0 6 := by
  rw [bodyRD, be16Bytes_fieldAt (by omega), be16Bytes_fieldAt (by omega), ← bytesAt_two (by omega),
    bytesAt_append frame 0 2 2, bytesAt_append frame 0 4 2]

/-- A field behind the bytes before it. -/
theorem bytesAt_append_field {frame : List Byte} {n : Nat} (h : n + 1 < frame.length) :
    bytesAt frame 0 n ++ be16Bytes (fieldAt frame n) = bytesAt frame 0 (n + 2) := by
  have hrun := bytesAt_append frame 0 n 2
  rwa [Nat.zero_add, ← be16Bytes_fieldAt h] at hrun

/-- A byte count and the data it counts, behind the bytes before them. -/
theorem bytesAt_append_counted {frame : List Byte} {n : Nat} (h : n + 1 + (byteAt frame n).toNat ≤ frame.length) :
    bytesAt frame 0 n ++ [BitVec.ofNat 8 (bytesAt frame (n + 1) (byteAt frame n).toNat).length] ++
      bytesAt frame (n + 1) (byteAt frame n).toNat = bytesAt frame 0 (n + 1 + (byteAt frame n).toNat) := by
  have hcount := bytesAt_append frame 0 n 1
  have hdata := bytesAt_append frame 0 (n + 1) (byteAt frame n).toNat
  rw [Nat.zero_add] at hcount hdata
  rw [countByte_bytesAt _ h, ← bytesAt_one (by omega), hcount, hdata]

/-- 0x02, 0x03, 0x04 and 0x06 (R119, R120). -/
theorem encode_parseRequest_of_length_8 {frame : List Byte} (hcrc : Machine.crcOk frame = true)
    (hfc : byteAt frame 1 = 0x02 ∨ byteAt frame 1 = 0x03 ∨ byteAt frame 1 = 0x04 ∨ byteAt frame 1 = 0x06)
    (hlen : frame.length = 8) :
    (parseRequest frame).wf = true ∧ encode (parseRequest frame) = .frame frame := by
  have hframe : withCrc (bodyRD (byteAt frame 0) (byteAt frame 1) (fieldAt frame 2) (fieldAt frame 4)) = frame := by
    rw [bodyRD_fieldAt (by omega), withCrc_bytesAt_of_crcOk hlen hcrc]
  rcases hfc with hfc | hfc | hfc | hfc <;> rw [hfc] at hframe
  · exact parseRequest_02 hfc ▸ ⟨rfl, congrArg Code.frame hframe⟩
  · exact parseRequest_03 hfc ▸ ⟨rfl, congrArg Code.frame hframe⟩
  · exact parseRequest_04 hfc ▸ ⟨rfl, congrArg Code.frame hframe⟩
  · exact parseRequest_06 hfc ▸ ⟨rfl, congrArg Code.frame hframe⟩

/-- 0x16 (R123). -/
theorem encode_parseRequest_16 {frame : List Byte} (hcrc : Machine.crcOk frame = true)
    (hfc : byteAt frame 1 = 0x16) (hlen : frame.length = 10) :
    (parseRequest frame).wf = true ∧ encode (parseRequest frame) = .frame frame := by
  have hframe : withCrc (bodyRD (byteAt frame 0) 0x16 (fieldAt frame 2) (fieldAt frame 4) ++
      be16Bytes (fieldAt frame 6)) = frame := by
    rw [← hfc, bodyRD_fieldAt (by omega), bytesAt_append_field (by omega), withCrc_bytesAt_of_crcOk hlen hcrc]
  exact parseRequest_16 hfc ▸ ⟨rfl, congrArg Code.frame hframe⟩

/-- 0x10 (R121): the start index decides the arm, and each arm's instruction is well-formed for its own. -/
theorem encode_parseRequest_10 {frame : List Byte} (hcrc : Machine.crcOk frame = true)
    (hfc : byteAt frame 1 = 0x10) (hlen : frame.length = 9 + (byteAt frame 6).toNat) :
    (parseRequest frame).wf = true ∧ encode (parseRequest frame) = .frame frame := by
  have hframe : withCrc (bodyWM (byteAt frame 0) (fieldAt frame 2) (fieldAt frame 4)
      (bytesAt frame 7 (byteAt frame 6).toNat)) = frame := by
    have hhead : bodyRD (byteAt frame 0) 0x10 (fieldAt frame 2) (fieldAt frame 4) = bytesAt frame 0 6 := by
      rw [← hfc, bodyRD_fieldAt (by omega)]
    have hwhole : withCrc (bytesAt frame 0 (7 + (byteAt frame 6).toNat)) = frame :=
      withCrc_bytesAt_of_crcOk (by omega) hcrc
    rwa [← bytesAt_append_counted (by omega), ← hhead] at hwhole
  have hdata : (bytesAt frame 7 (byteAt frame 6).toNat).length ≤ 255 := by
    rw [bytesAt_length (by omega)]
    exact Nat.le_of_lt_succ (byteAt frame 6).isLt
  rw [parseRequest_10 hfc]
  split
  case isTrue hstart => exact ⟨by simp [Instr.wf, hstart, hdata], congrArg Code.frame hframe⟩
  case isFalse hstart =>
    exact ⟨by simp [Instr.wf, Nat.lt_of_not_ge hstart, hdata], congrArg Code.frame hframe⟩

/-- 0x17 (R122). -/
theorem encode_parseRequest_17 {frame : List Byte} (hcrc : Machine.crcOk frame = true)
    (hfc : byteAt frame 1 = 0x17) (hlen : frame.length = 13 + (byteAt frame 10).toNat) :
    (parseRequest frame).wf = true ∧ encode (parseRequest frame) = .frame frame := by
  have hhead : bodyRD (byteAt frame 0) 0x17 (fieldAt frame 2) (fieldAt frame 4) ++
      be16Bytes (fieldAt frame 6) ++ be16Bytes (fieldAt frame 8) = bytesAt frame 0 10 := by
    rw [← hfc, bodyRD_fieldAt (by omega), bytesAt_append_field (by omega), bytesAt_append_field (by omega)]
  have hframe : withCrc (bytesAt frame 0 (11 + (byteAt frame 10).toNat)) = frame :=
    withCrc_bytesAt_of_crcOk (by omega) hcrc
  rw [← bytesAt_append_counted (by omega), ← hhead] at hframe
  have hdata : (bytesAt frame 11 (byteAt frame 10).toNat).length ≤ 255 := by
    rw [bytesAt_length (by omega)]
    exact Nat.le_of_lt_succ (byteAt frame 10).isLt
  exact parseRequest_17 hfc ▸ ⟨by simpa [Instr.wf] using hdata, congrArg Code.frame hframe⟩

/-- Any other function byte (R130). -/
theorem encode_parseRequest_illegal {frame : List Byte} (hcrc : Machine.crcOk frame = true)
    (hmin : Config.minFrame ≤ frame.length) (hfc : isSupported (byteAt frame 1) = false) :
    (parseRequest frame).wf = true ∧ encode (parseRequest frame) = .frame frame := by
  unfold Config.minFrame at hmin
  rw [parseRequest_of_unsupported (by simpa [isSupported] using hfc)]
  have hpayload : 1 ≤ (bytesAt frame 2 (frame.length - 4)).length := by rw [bytesAt_length] <;> omega
  refine ⟨by simp [Instr.wf, hfc, hpayload], congrArg Code.frame ?_⟩
  rw [← bytesAt_two (by omega), bytesAt_append frame 0 2, withCrc_bytesAt_of_crcOk (by omega) hcrc]

/-! ### The statements -/

/-- Settles O52: each constructor's code is decoded to it, field by field, and a frame's CRC is that of its body. -/
theorem decodeInvertsEncode : Obligations.DecodeInvertsEncode := by
  refine fun i hwf => ⟨decode_encode hwf, fun frame h => ?_⟩
  obtain ⟨body, rfl⟩ := encode_eq_frame h
  exact crcOk_withCrc body

/-- Settles O53: what the parser reads, written side by side, is the frame before its CRC. -/
theorem encodeInvertsDecodeOfFrames : Obligations.EncodeInvertsDecodeOfFrames := by
  intro frame i hcrc hdec
  obtain ⟨rfl, hmin, hfc | hlen⟩ := decodeRequest_eq_ok hdec
  · exact encode_parseRequest_illegal hcrc hmin hfc
  · rcases hlen with ⟨hfc, hlen⟩ | ⟨hfc, hlen⟩ | ⟨hfc, hlen⟩ | ⟨hfc, hlen⟩
    · exact encode_parseRequest_of_length_8 hcrc hfc hlen
    · exact encode_parseRequest_16 hcrc hfc hlen
    · exact encode_parseRequest_10 hcrc hfc hlen
    · exact encode_parseRequest_17 hcrc hfc hlen

end Sys2Proof
end

section
/-! PROOFS. Operation words one step at a time, and the CRC unit's operations (40_crc.md R154, R155, R160 to R162). -/

namespace Sys2Proof.Machine

/-! ### Runs of operation words -/

theorem operationInputs_cons {i : Instr} {w : OpWord} (h : encode i = .operation w) (is : List Instr) :
    operationInputs (i :: is) = .operation w :: operationInputs is := by
  simp [operationInputs, h]

/-- One step of a run whose next event is a well-formed operation's word. -/
theorem runSteps_operation {s t : State} {i : Instr} {is : List Instr} {w : OpWord} {rest : List Input} (n : Nat)
    (hc : configOk s = true) (hcode : encode i = .operation w) (hwf : i.wf = true)
    (hi : s.inputs = operationInputs (i :: is) ++ rest)
    (hnext : exec i { s with inputs := operationInputs is ++ rest } = .next t) :
    runSteps (n + 1) s = runSteps n t := by
  have hdec : decodeOperation w = .ok i := by simpa [hcode, decode] using decode_encode hwf
  rw [operationInputs_cons hcode, List.cons_append] at hi
  rw [runSteps, step_operation hc hi hdec, hnext]

/-! ### The whole effect of each operation -/

theorem exec_crcrSeed (seed : U16) (s : State) :
    exec (.crcrSeed seed) s = .next { s with crcrAcc := seed, crcrAccWritten := true } := rfl

theorem exec_crcfSeed (seed : U16) (s : State) :
    exec (.crcfSeed seed) s = .next { s with crcfAcc := seed, crcfAccWritten := true } := rfl

theorem exec_crcfPoly (p : U16) (s : State) : exec (.crcfPoly p) s = .next { s with crcfPoly := p } := rfl

theorem exec_crcrByte_written (b : Byte) {s : State} (h : s.crcrAccWritten = true) :
    exec (.crcrByte b) s = .next { s with crcrAcc := crc16rStep s.crcrAcc b } := by
  simp [exec, execCrcrByte, h]

theorem exec_crcrByte_unwritten (b : Byte) {s : State} (h : s.crcrAccWritten = false) :
    exec (.crcrByte b) s = .refused (.unwrittenRegister .crcrAcc) := by
  simp [exec, execCrcrByte, h]

theorem exec_crcfByte_written (b : Byte) {s : State} (h : s.crcfAccWritten = true) :
    exec (.crcfByte b) s = .next { s with crcfAcc := crc16fStep s.crcfAcc b s.crcfPoly } := by
  simp [exec, execCrcfByte, h]

theorem exec_crcfByte_unwritten (b : Byte) {s : State} (h : s.crcfAccWritten = false) :
    exec (.crcfByte b) s = .refused (.unwrittenRegister .crcfAcc) := by
  simp [exec, execCrcfByte, h]

/-! ### Runs of BYTE operations -/

/-- One CRCR.BYTE for each byte of a sequence, from a written accumulator. -/
theorem runSteps_crcrBytes (bytes : List Byte) (rest : List Input) {s : State} (hc : configOk s = true)
    (hw : s.crcrAccWritten = true) (hi : s.inputs = operationInputs (bytes.map .crcrByte) ++ rest) :
    runSteps bytes.length s = .next { s with inputs := rest, crcrAcc := crc16r s.crcrAcc bytes } := by
  induction bytes generalizing s with
  | nil =>
    obtain rfl : s.inputs = rest := hi
    rfl
  | cons b bytes ih =>
    rw [List.length_cons, runSteps_operation bytes.length hc rfl rfl hi (exec_crcrByte_written b hw)]
    exact ih hc hw rfl

/-- One CRCF.BYTE for each byte of a sequence, from a written accumulator; the polynomial stays. -/
theorem runSteps_crcfBytes (bytes : List Byte) (rest : List Input) {s : State} (hc : configOk s = true)
    (hw : s.crcfAccWritten = true) (hi : s.inputs = operationInputs (bytes.map .crcfByte) ++ rest) :
    runSteps bytes.length s = .next { s with inputs := rest, crcfAcc := crc16f s.crcfAcc bytes s.crcfPoly } := by
  induction bytes generalizing s with
  | nil =>
    obtain rfl : s.inputs = rest := hi
    rfl
  | cons b bytes ih =>
    rw [List.length_cons, runSteps_operation bytes.length hc rfl rfl hi (exec_crcfByte_written b hw)]
    exact ih hc hw rfl

/-! ### The statements -/

/-- Settles O1: the operand fits its word, and the meaning is one update. -/
theorem seedsAndPolynomialWriteTheirRegister : Obligations.SeedsAndPolynomialWriteTheirRegister :=
  fun s v => ⟨⟨operandOf_toNat v .crcrSeed, exec_crcrSeed v s⟩, ⟨operandOf_toNat v .crcfSeed, exec_crcfSeed v s⟩,
    operandOf_toNat v .crcfPoly, exec_crcfPoly v s⟩

/-- Settles O2: the SEED is the first step of the run, and the BYTEs fold the step over the sequence. -/
theorem crcrBytesAccumulateTheReflectedCrc : Obligations.CrcrBytesAccumulateTheReflectedCrc := by
  refine ⟨fun s b => ⟨operandOf_toNat b .crcrByte, exec_crcrByte_written b, exec_crcrByte_unwritten b⟩,
    fun s seed bytes rest hc hi => ?_⟩
  rw [runSteps_operation bytes.length hc rfl rfl hi (exec_crcrSeed seed _)]
  exact runSteps_crcrBytes bytes rest hc rfl rfl

/-- Settles O3: as for the reflected engine, with the polynomial that the run finds. -/
theorem crcfBytesAccumulateTheForwardCrc : Obligations.CrcfBytesAccumulateTheForwardCrc := by
  refine ⟨fun s b => ⟨operandOf_toNat b .crcfByte, exec_crcfByte_written b, exec_crcfByte_unwritten b⟩,
    fun s seed bytes rest hc hi => ?_⟩
  rw [runSteps_operation bytes.length hc rfl rfl hi (exec_crcfSeed seed _)]
  exact runSteps_crcfBytes bytes rest hc rfl rfl

/-- Settles O4: fixed values, each computed. -/
theorem workedCrcValues : Obligations.WorkedCrcValues :=
  ⟨by decide +kernel, by decide +kernel, by decide +kernel, by decide +kernel, by decide +kernel⟩

/-- Settles O54: fixed codes, each decoded. -/
theorem workedCodesDecode : Obligations.WorkedCodesDecode := ⟨rfl, rfl, rfl, rfl, rfl, rfl, rfl⟩

/-- Settles O55: the five codes from 0xB on, whatever operand follows. -/
theorem reservedCodesAreRefused : Obligations.ReservedCodesAreRefused := by
  intro s op operand hop
  obtain rfl | rfl | rfl | rfl | rfl : op = 0xB ∨ op = 0xC ∨ op = 0xD ∨ op = 0xE ∨ op = 0xF := by
    revert op
    decide
  · exact ⟨.reservedB, rfl, by simp, rfl⟩
  · exact ⟨.reservedC, rfl, by simp, rfl⟩
  · exact ⟨.reservedD, rfl, by simp, rfl⟩
  · exact ⟨.reservedE, rfl, by simp, rfl⟩
  · exact ⟨.reservedF, rfl, by simp, rfl⟩

end Sys2Proof.Machine
end

section
/-! PROOFS. The frame receiver's memory, silence timer and configuration operations (41_frame_receiver.md R184, R188 to
R196). -/

namespace Sys2Proof.Machine

/-! ### The silence timer -/

theorem exec_tmrTick_disarmed {s : State} (h : s.tmrArmed = false) : exec .tmrTick s = .next s := by
  simp [exec, execTmrTick, h]

theorem exec_tmrTick_counts {s : State} (ha : s.tmrArmed = true) (hcnt : 1 < s.tmrCnt) :
    exec .tmrTick s = .next { s with tmrCnt := s.tmrCnt - 1 } := by
  simp [exec, execTmrTick, ha, hcnt.ne', Nat.ne_zero_of_lt hcnt]

theorem exec_tmrTick_fires {s : State} (ha : s.tmrArmed = true) (hcnt : s.tmrCnt = 1) :
    exec .tmrTick s = fire { s with tmrArmed := false, tmrCnt := 0 } := by
  simp [exec, execTmrTick, ha, hcnt]

theorem fire_latched {s : State} (h : s.rxLen ≠ 0) : fire s = .next s := by
  simp [fire, (frameLatched_eq_true s).mpr h]

theorem fire_unresolved {s : State} (h : s.rxLen = 0) (hw : s.slaveAddrWritten = false) :
    fire s = .refused (.unwrittenRegister .slaveAddr) := by
  simp [fire, (frameLatched_eq_false s).mpr h, hw]

theorem fire_short {s : State} (h : s.rxLen = 0) (hw : s.slaveAddrWritten = true) (hcur : s.rxCur < Config.minFrame) :
    fire s = .next (resetBuffer s) := by
  simp [fire, (frameLatched_eq_false s).mpr h, hw, hcur.not_ge]

theorem addressed_iff (first slaveAddr : Byte) :
    addressed first slaveAddr = true ↔ first = 0 ∨ first = slaveAddr := by
  simp [addressed]

/-- R190: the gate is true. -/
theorem fire_addressed {s : State} {first : Byte} (h : s.rxLen = 0) (hw : s.slaveAddrWritten = true)
    (hcur : Config.minFrame ≤ s.rxCur) (hfirst : frameByte s 0 = .ok first) (ha : first = 0 ∨ first = s.slaveAddr) :
    fire s = .next (latchFrame s) := by
  simp [fire, (frameLatched_eq_false s).mpr h, hw, hcur, hfirst, (addressed_iff _ _).mpr ha]

/-- R191: the frame is another node's. -/
theorem fire_not_addressed {s : State} {first : Byte} (h : s.rxLen = 0) (hw : s.slaveAddrWritten = true)
    (hcur : Config.minFrame ≤ s.rxCur) (hfirst : frameByte s 0 = .ok first)
    (ha : ¬(first = 0 ∨ first = s.slaveAddr)) : fire s = .next (resetBuffer s) := by
  simp [fire, (frameLatched_eq_false s).mpr h, hw, hcur, hfirst, (addressed_iff _ _).not.mpr ha]

/-- `n` ticks, none of which ends the count. -/
theorem runSteps_ticks (n : Nat) (rest : List Input) {s : State} (hc : configOk s = true) (ha : s.tmrArmed = true)
    (hcnt : n < s.tmrCnt) (hi : s.inputs = operationInputs (List.replicate n .tmrTick) ++ rest) :
    runSteps n s = .next { s with inputs := rest, tmrCnt := s.tmrCnt - n } := by
  induction n generalizing s with
  | zero =>
    obtain rfl : s.inputs = rest := hi
    rfl
  | succ n ih =>
    have hmore : 1 < s.tmrCnt := by omega
    rw [List.replicate_succ] at hi
    rw [runSteps_operation n hc rfl rfl hi (exec_tmrTick_counts ha hmore), Nat.add_comm n 1, ← Nat.sub_sub]
    exact ih hc ha (show n < s.tmrCnt - 1 by omega) rfl

theorem runSteps_one (s : State) : runSteps 1 s = step s := by
  rw [runSteps]
  cases step s <;> rfl

/-- As many ticks as the count: all but the last take one from it. -/
theorem runSteps_ticks_to_fire (n : Nat) (rest : List Input) {s : State} (hc : configOk s = true)
    (ha : s.tmrArmed = true) (hcnt : s.tmrCnt = n + 1)
    (hi : s.inputs = operationInputs (List.replicate (n + 1) .tmrTick) ++ rest) :
    runSteps (n + 1) s = exec .tmrTick { s with inputs := rest, tmrCnt := 1 } := by
  induction n generalizing s with
  | zero =>
    have hstep : step s = exec .tmrTick { s with inputs := rest } := step_operation hc hi (noOperand_zero .tmrTick)
    rw [runSteps_one, hstep]
    exact congrArg (fun cnt => exec .tmrTick { s with inputs := rest, tmrCnt := cnt }) hcnt
  | succ n ih =>
    rw [List.replicate_succ] at hi
    rw [runSteps_operation (n + 1) hc rfl rfl hi (exec_tmrTick_counts ha (show 1 < s.tmrCnt by omega))]
    exact ih hc ha (show s.tmrCnt - 1 = n + 1 by omega) rfl

/-! ### The silence period -/

/-- `ceil(n / d)` is the least number whose multiple reaches `n`. -/
theorem ceilDiv_le_iff {n d m : Nat} (hd : 0 < d) : ceilDiv n d ≤ m ↔ n ≤ d * m := by
  rw [ceilDiv, ← Nat.lt_succ_iff, Nat.div_lt_iff_lt_mul hd, Nat.succ_mul, Nat.mul_comm m d]
  omega

theorem ceilDiv_eq_ceil (n : Nat) {d : Nat} (hd : 0 < d) : ceilDiv n d = ⌈(n : ℚ) / d⌉₊ := by
  refine eq_of_forall_ge_iff fun m => ?_
  rw [ceilDiv_le_iff hd, Nat.ceil_le, div_le_iff₀ (by exact_mod_cast hd), Nat.mul_comm]
  exact_mod_cast Iff.rfl

/-- A count reaches the period exactly if it meets both bounds of R194. -/
theorem t35Period_le_iff (cfg : Config) {rate : Nat} (h : 1 ≤ rate) (n : Nat) :
    t35Period cfg rate ≤ n ↔ 7 * cfg.charBits * cfg.fTmr ≤ 2 * rate * n ∧ 7 * cfg.fTmr ≤ 4000 * n := by
  rw [t35Period, Nat.max_le, ceilDiv_le_iff (by omega), ceilDiv_le_iff (by omega)]

/-- The larger of the two ceilings of R194, in the rationals. -/
theorem t35Period_eq_ceil (cfg : Config) {rate : Nat} (h : 1 ≤ rate) :
    t35Period cfg rate =
      max ⌈(7 * cfg.charBits * cfg.fTmr : ℚ) / (2 * rate)⌉₊ ⌈(7 * cfg.fTmr : ℚ) / 4000⌉₊ := by
  rw [t35Period, ceilDiv_eq_ceil _ (by omega), ceilDiv_eq_ceil _ (by omega)]
  push_cast
  rfl

/-- R194: the period is at least one count, since the timer counts (R6, log 13). -/
theorem one_le_t35Period (cfg : Config) (rate : Nat) (h : 1 ≤ cfg.fTmr) : 1 ≤ t35Period cfg rate := by
  refine le_max_of_le_right (Nat.pos_of_ne_zero fun h0 => ?_)
  have := (ceilDiv_le_iff (by omega)).mp h0.le
  omega

theorem exec_cfgBaud {rate : Nat} (h : 1 ≤ rate) (s : State) :
    exec (.cfgBaud rate) s = .next { s with baud := rate, t35Reload := t35Period s.cfg rate, baudWritten := true } :=
  if_neg (Nat.ne_zero_of_lt h)

/-! ### The slave address -/

/-- R36: the sum modulo 256. -/
theorem resolvedAddr_eq (s : State) :
    resolvedAddr s = BitVec.ofNat 8 ((s.addrBase.toNat + s.strap.toNat) % 256) := by
  refine BitVec.eq_of_toNat_eq ?_
  have hstrap : s.strap.toNat < 2 ^ 4 := s.strap.isLt
  simp only [resolvedAddr, BitVec.toNat_add, BitVec.toNat_setWidth, BitVec.toNat_ofNat]
  omega

/-- R196, R221: what resolving the slave address writes. -/
theorem resolveAddr_eq (s : State) :
    resolveAddr s = { s with
      slaveAddr := BitVec.ofNat 8 ((s.addrBase.toNat + s.strap.toNat) % 256), slaveAddrWritten := true } := by
  rw [resolveAddr, resolvedAddr_eq]

/-! ### The statements -/

/-- Settles O8: the byte is appended, and the memory's laws say what its cells then read. -/
theorem receivedByteWritesOneFrameCell : Obligations.ReceivedByteWritesOneFrameCell := by
  intro s b wf idle written room
  obtain ⟨-, -, happend, -⟩ := receivedByteIsDiscardedOrAppended s b
  exact ⟨_, happend idle written room, Memory.wf_write _ _ _ wf, Memory.read_write_same _ _ _,
    fun _ => Memory.read_write_other _ _⟩

/-- Settles O9: the two cases before the fire. -/
theorem timerTickCountsDown : Obligations.TimerTickCountsDown :=
  fun _ => ⟨noOperand_zero .tmrTick, exec_tmrTick_disarmed, exec_tmrTick_counts⟩

/-- Settles O10: the tick is a fire of the disarmed timer, and each case of a fire has its own equation. -/
theorem timerFireLatchesOrResets : Obligations.TimerFireLatchesOrResets := by
  intro s armed last
  rw [exec_tmrTick_fires armed last]
  refine ⟨fun latched => fire_latched latched, fun idle unresolved => fire_unresolved idle unresolved,
    fun idle resolved short => fire_short idle resolved short, fun first idle resolved long room hread => ?_⟩
  have hfirst : frameByte { s with tmrArmed := false, tmrCnt := 0 } 0 = .ok first :=
    (frameByte_eq_ok _ 0 first).mpr ⟨show 0 < s.cfg.bufCap by omega, hread⟩
  exact ⟨fun addr => fire_addressed idle resolved long hfirst addr,
    fun hbroadcast hown => fire_not_addressed idle resolved long hfirst (not_or.mpr ⟨hbroadcast, hown⟩)⟩

/-- Settles O11: both by induction over the ticks. -/
theorem timerFiresAtTheReloadCount : Obligations.TimerFiresAtTheReloadCount := by
  refine ⟨fun s n rest => runSteps_ticks n rest, fun s rest hc ha hcnt hi => ?_⟩
  obtain ⟨n, hn⟩ := Nat.exists_eq_add_of_le' hcnt
  rw [hn] at hi ⊢
  exact runSteps_ticks_to_fire n rest hc ha hn hi

/-- Settles O13: the period's two integer divisions are the two ceilings. -/
theorem baudRateSetsThePeriod : Obligations.BaudRateSetsThePeriod :=
  fun s rate => ⟨rfl, fun h => by rw [exec_cfgBaud h, t35Period_eq_ceil s.cfg h], rfl⟩

/-- Settles O14: the period is the least count that meets both bounds, so it meets them itself. -/
theorem silencePeriodIsTheLeastAllowed : Obligations.SilencePeriodIsTheLeastAllowed := by
  intro cfg rate h
  obtain ⟨hchars, hmin⟩ := (t35Period_le_iff cfg h (t35Period cfg rate)).mp le_rfl
  exact ⟨hchars, hmin, fun n hn hn' => (t35Period_le_iff cfg h n).mpr ⟨hn, hn'⟩⟩

/-- Settles O15: the resolution is addition of 8-bit values. -/
theorem slaveAddressIsBasePlusStrap : Obligations.SlaveAddressIsBasePlusStrap :=
  fun s => ⟨noOperand_zero .cfgAddr, congrArg Host.Outcome.next (resolveAddr_eq s)⟩

/-- Settles O51: with a frame latched a byte is dropped, and the timer is disarmed (I1). -/
theorem interruptSideIsInertWhileLatched : Obligations.InterruptSideIsInertWhileLatched := by
  intro s b inv latched
  obtain ⟨-, hdrop, -⟩ := receivedByteIsDiscardedOrAppended s b
  exact ⟨hdrop latched, exec_tmrTick_disarmed (inv.receiver.latched_disarmed latched), exec_msTick s⟩

end Sys2Proof.Machine
end

section
/-! PROOFS. The main-loop operation (42_dispatcher_common.md): each outcome of a dispatch, the response it sends, and
what it leaves unchanged. -/

namespace Sys2Proof

/-- The parser copies bytes 0 and 1 of the frame (R116, R117). -/
theorem parseRequest_addr_function (frame : List Byte) :
    requestAddr (parseRequest frame) = byteAt frame 0 ∧ requestFunction (parseRequest frame) = byteAt frame 1 := by
  by_cases h : byteAt frame 1 ∈ supportedFunctions
  · rcases (isSupported_iff _).mp (by simpa [isSupported] using h) with h | h | h | h | h | h | h <;> rw [h]
    · rw [parseRequest_02 h]; exact ⟨rfl, rfl⟩
    · rw [parseRequest_03 h]; exact ⟨rfl, rfl⟩
    · rw [parseRequest_04 h]; exact ⟨rfl, rfl⟩
    · rw [parseRequest_06 h]; exact ⟨rfl, rfl⟩
    · rw [parseRequest_10 h]; split <;> exact ⟨rfl, rfl⟩
    · rw [parseRequest_16 h]; exact ⟨rfl, rfl⟩
    · rw [parseRequest_17 h]; exact ⟨rfl, rfl⟩
  · rw [parseRequest_of_unsupported h]; exact ⟨rfl, rfl⟩

/-- A length that is not the format's, said by function, is the failed length check. -/
theorem malformed_of_wrong_length {fc : Byte} {frame : List Byte}
    (h : (fc = 0x02 ∨ fc = 0x03 ∨ fc = 0x04 ∨ fc = 0x06) ∧ frame.length ≠ 8 ∨ fc = 0x16 ∧ frame.length ≠ 10 ∨
      fc = 0x10 ∧ ¬(9 ≤ frame.length ∧ frame.length = 9 + (byteAt frame 6).toNat) ∨
      fc = 0x17 ∧ ¬(13 ≤ frame.length ∧ frame.length = 13 + (byteAt frame 10).toNat)) :
    isSupported fc = true ∧ ¬FormatLength fc frame := by
  rcases h with ⟨rfl | rfl | rfl | rfl, h⟩ | ⟨rfl, h⟩ | ⟨rfl, h⟩ | ⟨rfl, h⟩ <;>
    exact ⟨rfl, by simp [FormatLength]; omega⟩

end Sys2Proof

namespace Sys2Proof.Machine

/-! ### The outcomes of a dispatch, an equation each -/

theorem dispatch_of_crc_mismatch {frame : List Byte} (s : State) (h : crcOk frame = false) :
    dispatch frame s = .next (release s) := by
  simp [dispatch, h]

theorem dispatch_of_rejected {frame : List Byte} {r : Reject} (s : State) (hcrc : crcOk frame = true)
    (hdec : decodeRequest frame = .error r) : dispatch frame s = .next (release (kickWatchdog s)) := by
  simp [dispatch, hcrc, hdec]

/-- A LOOP.ITER that answers next resolved the address of an idle receiver, or dispatched the latched frame. -/
theorem exec_loopIter_next {s t : State} (h : exec .loopIter s = .next t) :
    (s.rxLen = 0 ∧ t = resolveAddr s) ∨
      ∃ frame, LatchedFrame s frame ∧ dispatch frame (resolveAddr s) = .next t := by
  rcases exec_loopIter_cases s with ⟨idle, hidle⟩ | ⟨f, hfault⟩ | ⟨frame, -, hmin, hbytes, hlen, hdispatch⟩
  · rw [hidle] at h
    exact .inl ⟨idle, by cases h; rfl⟩
  · rw [hfault] at h
    cases h
  · exact .inr ⟨frame, ⟨hlen.symm, hlen ▸ hmin, hlen ▸ hbytes⟩, hdispatch ▸ h⟩

/-! ### The response -/

theorem complete_tx (addr : Byte) (body : List Byte) (s : State) :
    (complete addr body s).tx =
      if addr ≠ 0 ∨ s.cfg.bcastRespond = true then s.tx ++ [withCrc body] else s.tx := by
  rw [complete_eq]
  split <;> rfl

theorem complete_de_low (addr : Byte) (body : List Byte) {s : State} (h : s.de = false) :
    (complete addr body s).de = false := by
  rw [complete_eq]
  split
  · rfl
  · exact h

theorem RequestEffect.tx_eq {s t : State} (h : RequestEffect s t) : t.tx = s.tx := by
  rcases h with kept | ⟨off, bytes, rfl⟩
  · exact kept.tx
  · exact imgWrite_tx s off bytes

theorem RequestEffect.de_eq {s t : State} (h : RequestEffect s t) : t.de = s.de := by
  rcases h with kept | ⟨off, bytes, rfl⟩
  · exact kept.de
  · exact imgWrite_de s off bytes

theorem RequestEffect.cfg_eq {s t : State} (h : RequestEffect s t) : t.cfg = s.cfg := by
  rcases h with kept | ⟨off, bytes, rfl⟩
  · exact kept.cfg
  · exact imgWrite_cfg s off bytes

/-- A frame that decodes is answered to its own byte 0, once or, as a silenced broadcast, not at all (R240). -/
theorem dispatch_tx_of_decoded {frame : List Byte} {i : Instr} {s t : State} (hcrc : crcOk frame = true)
    (hdec : decodeRequest frame = .ok i) (h : dispatch frame s = .next t) :
    ∃ body, AnswersRequest i body ∧
      t.tx = if byteAt frame 0 ≠ 0 ∨ s.cfg.bcastRespond = true then s.tx ++ [withCrc body] else s.tx := by
  obtain ⟨body, s', hnext, hbody, effect⟩ := exec_request_outcome (decodeRequest_isRequest hdec) (kickWatchdog s)
  obtain ⟨rfl, -, -⟩ := decodeRequest_eq_ok hdec
  rw [dispatch_of_decodeRequest s hcrc hdec, hnext] at h
  cases h
  obtain ⟨haddr, -⟩ := parseRequest_addr_function frame
  refine ⟨body, hbody, ?_⟩
  rw [complete_tx, effect.tx_eq, effect.cfg_eq, haddr]
  rfl

/-- A response passes the CRC check with residue 0, repeats byte 0, and is normal or an exception's (X8). -/
theorem AnswersRequest.response {i : Instr} {body : List Byte} (h : AnswersRequest i body) :
    crcOk (withCrc body) = true ∧ mbcrc (withCrc body) = 0 ∧ byteAt (withCrc body) 0 = requestAddr i ∧
      (byteAt (withCrc body) 1 = requestFunction i ∨
        byteAt (withCrc body) 1 = requestFunction i ||| 0x80 ∧ (withCrc body).length = 5 ∧
          1 ≤ (byteAt (withCrc body) 2).toNat ∧ (byteAt (withCrc body) 2).toNat ≤ 4) := by
  refine ⟨crcOk_withCrc body, mbcrc_eq_zero_of_crcOk (by simp) (crcOk_withCrc body), ?_⟩
  rcases h with ⟨rest, rfl⟩ | ⟨code, rfl⟩
  · exact ⟨rfl, .inl rfl⟩
  · refine ⟨rfl, .inr ⟨rfl, withCrc_excBody_length _ _ _, ?_⟩⟩
    have hcode : byteAt (withCrc (excBody (requestAddr i) (requestFunction i) code)) 2 = code.byte := rfl
    rw [hcode]
    cases code <;> decide

/-! ### What a dispatch leaves unchanged -/

/-- A state with everything blanked that a dispatch may write: the latch and the cursor, the outputs, the deadline, the
values of `HOLD` and the two ports. Two states with the same rest agree on all other fields and on the size of `HOLD`. -/
def undispatched (s : State) : State :=
  { s with
    rxCur := 0, rxLen := 0, de := false, tx := [], wdgDeadline := 0, hold := List.replicate s.hold.length 0
    inputs := [], nvAnswers := [], imgAnswers := [], nvTrace := [], imgTrace := [] }

theorem undispatched_complete (addr : Byte) (body : List Byte) (s : State) :
    undispatched (complete addr body s) = undispatched s := by
  rw [complete_eq]
  split <;> rfl

theorem RequestEffect.undispatched_eq {s t : State} (h : RequestEffect s t) : undispatched t = undispatched s := by
  rcases h with kept | ⟨off, bytes, rfl⟩
  · simp only [undispatched, kept.crcrAcc, kept.crcfAcc, kept.crcfPoly, kept.fb, kept.tmrArmed, kept.tmrCnt,
      kept.t35Reload, kept.baud, kept.addrBase, kept.strap, kept.slaveAddr, kept.tickMs, kept.disc, kept.inp,
      kept.upgInProgress, kept.crcrAccWritten, kept.crcfAccWritten, kept.baudWritten, kept.slaveAddrWritten, kept.cfg,
      kept.hold_length]
  · rfl

theorem dispatch_undispatched {frame : List Byte} {s t : State} (h : dispatch frame s = .next t) :
    undispatched t = undispatched s := by
  rcases dispatch_cases frame s with ⟨-, e⟩ | ⟨_, -, -, e⟩ | ⟨i, -, -, hreq, e⟩
  · rw [e] at h; cases h; rfl
  · rw [e] at h; cases h; rfl
  · obtain ⟨body, s', hnext, -, effect⟩ := exec_request_outcome hreq (kickWatchdog s)
    rw [e, hnext] at h
    cases h
    rw [undispatched_complete, effect.undispatched_eq]
    rfl

/-- The equation of two such states, field by field. -/
theorem undispatched_field {s t : State} (h : undispatched t = undispatched s) {α : Type} (field : State → α) :
    field (undispatched t) = field (undispatched s) := congrArg field h

theorem undispatched_hold_length {s t : State} (h : undispatched t = undispatched s) :
    t.hold.length = s.hold.length := by
  simpa [undispatched] using congrArg (fun u => u.hold.length) h

/-- The driver-enable line is low after a dispatch, and at most one frame is sent (R242). -/
theorem dispatch_outputs {frame : List Byte} {s t : State} (h : dispatch frame s = .next t) :
    (s.de = false → t.de = false) ∧ (t.tx = s.tx ∨ ∃ r, t.tx = s.tx ++ [r]) := by
  rcases dispatch_cases frame s with ⟨-, e⟩ | ⟨_, -, -, e⟩ | ⟨i, -, -, hreq, e⟩
  · rw [e] at h; cases h; exact ⟨id, .inl rfl⟩
  · rw [e] at h; cases h; exact ⟨id, .inl rfl⟩
  · obtain ⟨body, s', hnext, -, effect⟩ := exec_request_outcome hreq (kickWatchdog s)
    rw [e, hnext] at h
    cases h
    refine ⟨fun hde => complete_de_low _ _ (effect.de_eq.trans hde), ?_⟩
    rw [complete_tx, effect.tx_eq]
    split
    · exact .inr ⟨_, rfl⟩
    · exact .inl rfl

/-- LOOP.ITER leaves all that a dispatch leaves, but the slave address. -/
theorem exec_loopIter_undispatched {s t : State} (h : exec .loopIter s = .next t) :
    undispatched t = undispatched (resolveAddr s) := by
  rcases exec_loopIter_next h with ⟨-, rfl⟩ | ⟨frame, -, hd⟩
  · rfl
  · exact dispatch_undispatched hd

theorem exec_loopIter_field {s t : State} (h : exec .loopIter s = .next t) {α : Type} (field : State → α) :
    field (undispatched t) = field (undispatched (resolveAddr s)) :=
  undispatched_field (exec_loopIter_undispatched h) field

theorem exec_loopIter_hold_length {s t : State} (h : exec .loopIter s = .next t) : t.hold.length = s.hold.length :=
  undispatched_hold_length (s := resolveAddr s) (exec_loopIter_undispatched h)

theorem exec_loopIter_outputs {s t : State} (h : exec .loopIter s = .next t) :
    (s.de = false → t.de = false) ∧ (t.tx = s.tx ∨ ∃ r, t.tx = s.tx ++ [r]) := by
  rcases exec_loopIter_next h with ⟨-, rfl⟩ | ⟨frame, -, hd⟩
  · exact ⟨id, .inl rfl⟩
  · exact dispatch_outputs (s := resolveAddr s) hd

/-! ### The watchdog -/

/-- A deadline at most half the tick's range ahead has not passed (R336). -/
theorem half_le_tick_sub_deadline {half tick timeout : Nat} (htick : tick < 2 * half) (h1 : 1 ≤ timeout)
    (hhalf : timeout ≤ half) :
    half ≤ (tick + (2 * half - (tick + timeout) % (2 * half) % (2 * half))) % (2 * half) := by
  rw [Nat.mod_mod]
  have hdiff : (tick + (2 * half - (tick + timeout) % (2 * half))) % (2 * half) = 2 * half - timeout := by
    by_cases hwrap : tick + timeout < 2 * half
    · rw [Nat.mod_eq_of_lt hwrap, Nat.mod_eq_of_lt (by omega)]
      omega
    · have hmod : (tick + timeout) % (2 * half) = tick + timeout - 2 * half := by
        rw [Nat.mod_eq_sub_mod (by omega), Nat.mod_eq_of_lt (by omega)]
      rw [hmod, Nat.mod_eq_sub_mod (by omega), Nat.mod_eq_of_lt (by omega)]
      omega
  omega

/-! ### The statements -/

/-- Settles O18: an idle iteration is the resolution. -/
theorem loopIterationWithoutFrameOnlyResolvesTheAddress :
    Obligations.LoopIterationWithoutFrameOnlyResolvesTheAddress :=
  fun s => ⟨noOperand_zero .loopIter, fun idle => by rw [exec_loopIter_idle idle, resolveAddr_eq]⟩

/-- Settles O19: the CRC check comes before the kick. -/
theorem crcMismatchIsDroppedSilently : Obligations.CrcMismatchIsDroppedSilently := by
  intro s frame latched hcrc
  rw [latched.exec_loopIter, dispatch_of_crc_mismatch _ hcrc, resolveAddr_eq]
  rfl

/-- Settles O20: another length than the format's is the decoder's rejection. -/
theorem wrongLengthIsDroppedAfterTheKick : Obligations.WrongLengthIsDroppedAfterTheKick := by
  intro s frame latched hcrc hlen
  obtain ⟨hfc, hformat⟩ := malformed_of_wrong_length hlen
  have hdec := decodeRequest_of_not_formatLength latched.minFrame_le hfc hformat
  rw [latched.exec_loopIter, dispatch_of_rejected _ hcrc hdec, resolveAddr_eq]
  rfl

/-- Settles O21: the dispatcher runs the meaning of what the decoder gives. -/
theorem loopIterationRunsTheLatchedRequest : Obligations.LoopIterationRunsTheLatchedRequest := by
  intro s frame i latched hcrc hdec
  exact ⟨decodeRequest_isRequest hdec, latched.exec_loopIter.trans (dispatch_of_decodeRequest _ hcrc hdec)⟩

/-- Settles O23: the deadline is the timeout ahead of the tick, and no dispatch moves the tick. -/
theorem watchdogHasNotExpiredAfterAKick : Obligations.WatchdogHasNotExpiredAfterAKick := by
  intro s t frame latched hcrc htick hwidth hmin hmax hnext
  have hcfg : t.cfg = s.cfg := exec_loopIter_field hnext State.cfg
  have htime : t.tickMs = s.tickMs := exec_loopIter_field hnext State.tickMs
  obtain ⟨hkick, -⟩ := watchdogIsKickedByEveryValidFrame s t hnext
  have hdeadline := hkick frame latched
  rw [if_pos hcrc] at hdeadline
  have hperiod : 2 ^ s.cfg.tickW = 2 * 2 ^ (s.cfg.tickW - 1) := by
    rw [← Nat.pow_succ', Nat.succ_eq_add_one, Nat.sub_add_cancel hwidth]
  rw [hperiod] at htick hdeadline
  simp only [watchdogExpired, hcfg, htime, hdeadline, hperiod]
  exact decide_eq_false (half_le_tick_sub_deadline htick hmin hmax).not_gt

/-- Settles O25: every field that is neither the latch's, an output, a port's nor a value of `HOLD`. -/
theorem loopIterationFrame : Obligations.LoopIterationFrame := by
  intro s t h
  have kept {α : Type} (field : State → α) := exec_loopIter_field h field
  exact ⟨kept State.fb, kept State.disc, kept State.inp, exec_loopIter_hold_length h, kept State.tmrArmed,
    kept State.tmrCnt, kept State.t35Reload, kept State.baud, kept State.crcrAcc, kept State.crcfAcc,
    kept State.crcfPoly, kept State.tickMs, kept State.addrBase, kept State.strap, kept State.upgInProgress,
    kept State.cfg, exec_loopIter_outputs h⟩

/-- Settles O27: the completion, with the two CRC bytes written out. -/
theorem responseIsTransmittedAndTheLatchReleased : Obligations.ResponseIsTransmittedAndTheLatchReleased :=
  fun s addr body => complete_eq addr body s

/-- Settles O28: the two drops send nothing; a decoded frame is answered by one body of its request. -/
theorem everyResponseVerifies : Obligations.EveryResponseVerifies := by
  intro s t frame latched hnext
  rw [latched.exec_loopIter] at hnext
  refine ⟨fun hsilent => ?_, fun hcrc ⟨i, hdec⟩ haddr => ?_⟩
  · rcases dispatch_cases frame (resolveAddr s) with ⟨-, e⟩ | ⟨_, -, -, e⟩ | ⟨i, hcrc, hdec, -, -⟩
    · rw [e] at hnext; cases hnext; rfl
    · rw [e] at hnext; cases hnext; rfl
    · obtain ⟨body, -, htx⟩ := dispatch_tx_of_decoded hcrc hdec hnext
      obtain ⟨hzero, hbcast⟩ : byteAt frame 0 = 0 ∧ s.cfg.bcastRespond = false := by
        simpa [hcrc, hdec] using hsilent
      simpa [hzero, hbcast] using htx
  · obtain ⟨body, hbody, htx⟩ := dispatch_tx_of_decoded hcrc hdec hnext
    obtain ⟨rfl, -, -⟩ := decodeRequest_eq_ok hdec
    obtain ⟨haddr', hfc⟩ := parseRequest_addr_function frame
    rw [resolveAddr_cfg, if_pos haddr] at htx
    exact ⟨withCrc body, htx, haddr' ▸ hfc ▸ hbody.response⟩

/-- Settles O29: one flipped bit always fails the CRC check, and that drop writes the latch and the address only. -/
theorem singleBitErrorIsNeverAnswered : Obligations.SingleBitErrorIsNeverAnswered := by
  intro s sent received hsent hmin hflip latched
  have hcrc : crcOk received = false :=
    crcOk_eq_false_of_oneBitApart (Nat.le_trans (by decide) hmin) hsent hflip
  exact ⟨_, latched.exec_loopIter.trans (dispatch_of_crc_mismatch _ hcrc), rfl, rfl, rfl, rfl, rfl, rfl⟩

end Sys2Proof.Machine
end

section
/-! PROOFS. The dispatcher and the CRC unit do not share a register (10_state.md R21): a dispatch commutes with a change
of the CRC unit's registers. -/

namespace Sys2Proof.Machine

/-- The state with other values in the CRC unit's registers. -/
def withCrcUnit (x y z : U16) (s : State) : State := { s with crcrAcc := x, crcfAcc := y, crcfPoly := z }

section
variable (x y z : U16) (s : State)

theorem complete_withCrcUnit (addr : Byte) (body : List Byte) :
    complete addr body (withCrcUnit x y z s) = withCrcUnit x y z (complete addr body s) := by
  rw [complete_eq, complete_eq, apply_ite (withCrcUnit x y z)]
  rfl

theorem raiseExc_withCrcUnit (addr fc : Byte) (code : ExcCode) :
    raiseExc addr fc code (withCrcUnit x y z s) = withCrcUnit x y z (raiseExc addr fc code s) :=
  complete_withCrcUnit x y z s addr _

theorem nvWrite_withCrcUnit (off : Nat) (bytes : List Byte) :
    nvWrite off bytes (withCrcUnit x y z s) = (nvWrite off bytes s).map id (withCrcUnit x y z) := rfl

theorem setHolding_withCrcUnit (i : Nat) (v : U16) :
    setHolding i v (withCrcUnit x y z s) = (setHolding i v s).map (Prod.map id (withCrcUnit x y z)) := by
  have hhold : (withCrcUnit x y z s).hold = s.hold := rfl
  have hcfg : (withCrcUnit x y z s).cfg = s.cfg := rfl
  unfold setHolding
  rw [hhold, hcfg, nvWrite_withCrcUnit]
  cases s.hold[i]? with
  | none => rfl
  | some old =>
    dsimp only
    by_cases hv : old = v
    · rw [if_pos hv, if_pos hv]
      rfl
    · rw [if_neg hv, if_neg hv]
      rcases nvWrite (holdOffset s.cfg i) (be16Bytes v) s with ⟨_ | _, t⟩ <;> rfl

theorem setHoldings_withCrcUnit (a : Nat) (vals : List U16) :
    setHoldings a vals (withCrcUnit x y z s) = (setHoldings a vals s).map (Prod.map id (withCrcUnit x y z)) := by
  induction vals generalizing a s with
  | nil => rfl
  | cons v vs ih =>
    rw [setHoldings, setHoldings, setHolding_withCrcUnit]
    rcases setHolding a v s with _ | ⟨_ | _, t⟩
    · rfl
    · exact ih t (a + 1)
    · rfl

theorem imgWrite_withCrcUnit (off : Nat) (bytes : List Byte) :
    imgWrite off bytes (withCrcUnit x y z s) = (imgWrite off bytes s).map id (withCrcUnit x y z) := rfl

theorem answerRegisters_withCrcUnit (addr fc : Byte) (start qty : Nat) (bank : List U16) :
    answerRegisters addr fc start qty bank (withCrcUnit x y z s) =
      onNext (withCrcUnit x y z) (answerRegisters addr fc start qty bank s) := by
  unfold answerRegisters
  cases readCells bank start qty with
  | none => rfl
  | some vals => exact congrArg Host.Outcome.next (complete_withCrcUnit x y z s addr _)

theorem readRegisters_withCrcUnit (addr fc : Byte) (start qty : U16) (bank : List U16) :
    readRegisters addr fc start qty bank (withCrcUnit x y z s) =
      onNext (withCrcUnit x y z) (readRegisters addr fc start qty bank s) := by
  unfold readRegisters
  cases chkRead start.toNat qty.toNat bank.length with
  | some code => exact congrArg Host.Outcome.next (raiseExc_withCrcUnit x y z s addr fc code)
  | none => exact answerRegisters_withCrcUnit x y z s addr fc start.toNat qty.toNat bank

theorem exec_rdi_withCrcUnit (addr : Byte) (start qty : U16) :
    exec (.rdi addr start qty) (withCrcUnit x y z s) = onNext (withCrcUnit x y z) (exec (.rdi addr start qty) s) := by
  have hdisc : (withCrcUnit x y z s).disc = s.disc := rfl
  simp only [exec, execRdi, hdisc]
  cases chkRead start.toNat qty.toNat s.disc.length with
  | some code => exact congrArg Host.Outcome.next (raiseExc_withCrcUnit x y z s addr 0x02 code)
  | none =>
    cases readCells s.disc start.toNat qty.toNat with
    | none => rfl
    | some bits => exact congrArg Host.Outcome.next (complete_withCrcUnit x y z s addr _)

theorem exec_wsr_withCrcUnit (addr : Byte) (reg val : U16) :
    exec (.wsr addr reg val) (withCrcUnit x y z s) = onNext (withCrcUnit x y z) (exec (.wsr addr reg val) s) := by
  have hhold : (withCrcUnit x y z s).hold = s.hold := rfl
  simp only [exec, execWsr, hhold, setHolding_withCrcUnit, raiseExc_withCrcUnit]
  split
  · rfl
  · rcases setHolding reg.toNat val s with _ | ⟨_ | _, t⟩
    · rfl
    · exact congrArg Host.Outcome.next (complete_withCrcUnit x y z t addr _)
    · exact congrArg Host.Outcome.next (raiseExc_withCrcUnit x y z t addr 0x06 _)

theorem exec_mwr_withCrcUnit (addr : Byte) (ref andMask orMask : U16) :
    exec (.mwr addr ref andMask orMask) (withCrcUnit x y z s) =
      onNext (withCrcUnit x y z) (exec (.mwr addr ref andMask orMask) s) := by
  have hhold : (withCrcUnit x y z s).hold = s.hold := rfl
  simp only [exec, execMwr, hhold, setHolding_withCrcUnit, raiseExc_withCrcUnit]
  split
  · rfl
  · cases s.hold[ref.toNat]? with
    | none => rfl
    | some cur =>
      dsimp only
      rcases setHolding ref.toNat (maskedValue cur andMask orMask) s with _ | ⟨_ | _, t⟩
      · rfl
      · exact congrArg Host.Outcome.next (complete_withCrcUnit x y z t addr _)
      · exact congrArg Host.Outcome.next (raiseExc_withCrcUnit x y z t addr 0x16 _)

theorem exec_wmr_withCrcUnit (addr : Byte) (start qty : U16) (data : List Byte) :
    exec (.wmr addr start qty data) (withCrcUnit x y z s) =
      onNext (withCrcUnit x y z) (exec (.wmr addr start qty data) s) := by
  have hhold : (withCrcUnit x y z s).hold = s.hold := rfl
  simp only [exec, execWmr, hhold, setHoldings_withCrcUnit, raiseExc_withCrcUnit]
  cases chkWrite start.toNat qty.toNat data.length s.hold.length with
  | some code => rfl
  | none =>
    dsimp only
    rcases setHoldings start.toNat (registerValues data) s with _ | ⟨_ | _, t⟩
    · rfl
    · exact congrArg Host.Outcome.next (complete_withCrcUnit x y z t addr _)
    · exact congrArg Host.Outcome.next (raiseExc_withCrcUnit x y z t addr 0x10 _)

theorem exec_rwm_withCrcUnit (addr : Byte) (rstart rqty wstart wqty : U16) (wdata : List Byte) :
    exec (.rwm addr rstart rqty wstart wqty wdata) (withCrcUnit x y z s) =
      onNext (withCrcUnit x y z) (exec (.rwm addr rstart rqty wstart wqty wdata) s) := by
  have hhold : (withCrcUnit x y z s).hold = s.hold := rfl
  simp only [exec, execRwm, hhold, setHoldings_withCrcUnit, raiseExc_withCrcUnit]
  cases chkRead rstart.toNat rqty.toNat s.hold.length with
  | some code => rfl
  | none =>
    cases chkWrite wstart.toNat wqty.toNat wdata.length s.hold.length with
    | some code => rfl
    | none =>
      dsimp only
      rcases setHoldings wstart.toNat (registerValues wdata) s with _ | ⟨_ | _, t⟩
      · rfl
      · exact answerRegisters_withCrcUnit x y z t addr 0x17 rstart.toNat rqty.toNat t.hold
      · exact congrArg Host.Outcome.next (raiseExc_withCrcUnit x y z t addr 0x17 _)

theorem exec_wmrOvl_withCrcUnit (addr : Byte) (start qty : U16) (data : List Byte) :
    exec (.wmrOvl addr start qty data) (withCrcUnit x y z s) =
      onNext (withCrcUnit x y z) (exec (.wmrOvl addr start qty data) s) := by
  have hupg : (withCrcUnit x y z s).upgInProgress = s.upgInProgress := rfl
  simp only [exec, execWmrOvl, hupg, imgWrite_withCrcUnit, raiseExc_withCrcUnit]
  split
  · rcases imgWrite (overlayOffset start.toNat) data s with ⟨_ | _, t⟩
    · exact congrArg Host.Outcome.next (complete_withCrcUnit x y z t addr _)
    · exact congrArg Host.Outcome.next (raiseExc_withCrcUnit x y z t addr 0x10 _)
  · rfl

/-- Every request commutes with a change of the CRC unit's registers. -/
theorem exec_request_withCrcUnit {i : Instr} (h : i.isRequest = true) :
    exec i (withCrcUnit x y z s) = onNext (withCrcUnit x y z) (exec i s) := by
  cases i
  case rdi addr start qty => exact exec_rdi_withCrcUnit x y z s addr start qty
  case rir addr start qty => exact readRegisters_withCrcUnit x y z s addr 0x04 start qty s.inp
  case rhr addr start qty => exact readRegisters_withCrcUnit x y z s addr 0x03 start qty s.hold
  case wsr addr reg val => exact exec_wsr_withCrcUnit x y z s addr reg val
  case wmr addr start qty data => exact exec_wmr_withCrcUnit x y z s addr start qty data
  case rwm addr rstart rqty wstart wqty wdata =>
    exact exec_rwm_withCrcUnit x y z s addr rstart rqty wstart wqty wdata
  case mwr addr ref andMask orMask => exact exec_mwr_withCrcUnit x y z s addr ref andMask orMask
  case wmrOvl addr start qty data => exact exec_wmrOvl_withCrcUnit x y z s addr start qty data
  case illegal addr fc payload =>
    exact congrArg Host.Outcome.next (raiseExc_withCrcUnit x y z s addr fc .illegalFunction)
  all_goals cases h

theorem dispatch_withCrcUnit (frame : List Byte) :
    dispatch frame (withCrcUnit x y z s) = onNext (withCrcUnit x y z) (dispatch frame s) := by
  cases hcrc : crcOk frame with
  | false => rw [dispatch_of_crc_mismatch _ hcrc, dispatch_of_crc_mismatch _ hcrc]; rfl
  | true =>
    cases hdec : decodeRequest frame with
    | error r => rw [dispatch_of_rejected _ hcrc hdec, dispatch_of_rejected _ hcrc hdec]; rfl
    | ok i =>
      rw [dispatch_of_decodeRequest _ hcrc hdec, dispatch_of_decodeRequest _ hcrc hdec]
      exact exec_request_withCrcUnit x y z (kickWatchdog s) (decodeRequest_isRequest hdec)

theorem exec_loopIter_withCrcUnit :
    exec .loopIter (withCrcUnit x y z s) = onNext (withCrcUnit x y z) (exec .loopIter s) := by
  by_cases hidle : s.rxLen = 0
  · rw [exec_loopIter_idle hidle, exec_loopIter_idle (s := withCrcUnit x y z s) hidle]
    rfl
  · by_cases hshort : s.rxLen < Config.minFrame
    · rw [exec_loopIter_short hidle hshort, exec_loopIter_short (s := withCrcUnit x y z s) hidle hshort]
      rfl
    · have hmin := Nat.le_of_not_lt hshort
      have hlen : (withCrcUnit x y z s).rxLen = s.rxLen := rfl
      have hbytes : frameBytes (withCrcUnit x y z s) 0 s.rxLen = frameBytes s 0 s.rxLen :=
        frameBytes_congr (s := s) (t := withCrcUnit x y z s) rfl rfl 0 s.rxLen
      rw [exec_loopIter_latched hmin, exec_loopIter_latched (s := withCrcUnit x y z s) hmin, hlen, hbytes]
      cases frameBytes s 0 s.rxLen with
      | error f => rfl
      | ok frame => exact dispatch_withCrcUnit x y z (resolveAddr s) frame

end

/-- Settles O26: every branch of LOOP.ITER tests and reads other registers only, and writes none of the three. -/
theorem dispatchIgnoresTheCrcUnit : Obligations.DispatchIgnoresTheCrcUnit :=
  fun s x y z => exec_loopIter_withCrcUnit x y z s

end Sys2Proof.Machine
end

section
/-! PROOFS. The read requests (43_read_functions.md): the range check, the bitmap and the register bytes. -/

namespace Sys2Proof.Machine

/-! ### The range check (R232) -/

theorem chkRead_of_start {start qty size : Nat} (h : size ≤ start) :
    chkRead start qty size = some .illegalAddress := if_pos h

theorem chkRead_of_zero {start size : Nat} (h : start < size) : chkRead start 0 size = some .illegalData := by
  rw [chkRead, if_neg h.not_ge, if_pos Nat.one_pos]

theorem chkRead_of_end {start qty size : Nat} (h : start < size) (hqty : 1 ≤ qty) (hend : size < start + qty) :
    chkRead start qty size = some .illegalAddress := by
  rw [chkRead, if_neg h.not_ge, if_neg hqty.not_gt, if_pos hend]

theorem one_le_toNat {n : Nat} {v : BitVec n} (h : v ≠ 0) : 1 ≤ v.toNat :=
  Nat.pos_of_ne_zero fun h0 => h (BitVec.eq_of_toNat_eq h0)

/-- A request that raises what the range check answers raises each code exactly where its test decides. -/
theorem raises_of_chkRead {run : Host.Outcome State Fault Refusal} {raised : ExcCode → Host.Outcome State Fault Refusal}
    {start qty : U16} {size : Nat}
    (h : ∀ code, chkRead start.toNat qty.toNat size = some code → run = raised code) :
    (size ≤ start.toNat → run = raised .illegalAddress) ∧
    (start.toNat < size → qty = 0 → run = raised .illegalData) ∧
    (start.toNat < size → qty ≠ 0 → size < start.toNat + qty.toNat → run = raised .illegalAddress) :=
  ⟨fun hstart => h _ (chkRead_of_start hstart), fun hstart hqty => h _ (hqty ▸ chkRead_of_zero hstart),
    fun hstart hqty hend => h _ (chkRead_of_end hstart (one_le_toNat hqty) hend)⟩

theorem exec_rdi_exception (addr : Byte) {start qty : U16} {s : State} {code : ExcCode}
    (h : chkRead start.toNat qty.toNat s.disc.length = some code) :
    exec (.rdi addr start qty) s = .next (raiseExc addr 0x02 code s) := by
  simp [exec, execRdi, h]

theorem readRegisters_exception (addr fc : Byte) {start qty : U16} {bank : List U16} (s : State) {code : ExcCode}
    (h : chkRead start.toNat qty.toNat bank.length = some code) :
    readRegisters addr fc start qty bank s = .next (raiseExc addr fc code s) := by
  simp [readRegisters, h]

/-! ### The bitmap (R261, R264) -/

theorem packByte_getLsbD (bit : Nat → Bool) {k : Nat} (h : k < 8) : (packByte bit).getLsbD k = bit k := by
  rw [packByte, BitVec.getLsbD_ofBoolListLE]
  match k with
  | 0 | 1 | 2 | 3 | 4 | 5 | 6 | 7 => rfl

theorem packBits_length (bits : List Bool) : (packBits bits).length = (bits.length + 7) / 8 := by
  simp [packBits, ceilDiv]

/-- Bit `i` of the bitmap is input `i`, and 0 beyond the inputs. -/
theorem packBits_getLsbD (bits : List Bool) (i : Nat) :
    (byteAt (packBits bits) (i / 8)).getLsbD (i % 8) = bits.getD i false := by
  by_cases h : i / 8 < (packBits bits).length
  · have hbyte : byteAt (packBits bits) (i / 8) = packByte fun b => bits.getD (8 * (i / 8) + b) false := by
      rw [byteAt, List.getD_eq_getElem _ _ h]
      simp [packBits]
    rw [hbyte, packByte_getLsbD _ (Nat.mod_lt i (by decide)), Nat.div_add_mod]
  · have hbyte : byteAt (packBits bits) (i / 8) = 0 := List.getD_eq_default _ _ (Nat.le_of_not_lt h)
    rw [packBits_length] at h
    rw [hbyte, List.getD_eq_default _ _ (by omega)]
    exact BitVec.getLsbD_zero

/-- The cells of a range, one by one. -/
theorem getElem?_range {α : Type} (bank : List α) (a : Nat) {n i : Nat} (h : i < n) :
    ((bank.drop a).take n)[i]? = bank[a + i]? := by
  rw [List.getElem?_take_of_lt h, List.getElem?_drop]

theorem length_range {α : Type} {bank : List α} {a n : Nat} (h : a + n ≤ bank.length) :
    ((bank.drop a).take n).length = n := by
  simp; omega

theorem exec_rdi_normal (addr : Byte) {start qty : U16} {s : State} (hqty : 1 ≤ qty.toNat)
    (h : start.toNat + qty.toNat ≤ s.disc.length) :
    exec (.rdi addr start qty) s =
      .next (complete addr (discretesBody addr 0x02 ((s.disc.drop start.toNat).take qty.toNat)) s) := by
  simp [exec, execRdi, (chkRead_eq_none _ _ _).mpr ⟨hqty, h⟩, readCells_eq _ _ _ h]

/-! ### Register bytes (R90, R124) -/

theorem registerBytes_length (vals : List U16) : (registerBytes vals).length = 2 * vals.length := by
  induction vals with
  | nil => rfl
  | cons v vs ih => simp [registerBytes, ih]; omega

/-- Bytes `2i` and `2i + 1` are value `i`. -/
theorem registerBytes_pair {vals : List U16} {i : Nat} (h : i < vals.length) :
    some (be16 (byteAt (registerBytes vals) (2 * i)) (byteAt (registerBytes vals) (2 * i + 1))) = vals[i]? := by
  induction vals generalizing i with
  | nil => cases h
  | cons v vs ih =>
    cases i with
    | zero => exact congrArg some (be16_hi8_lo8 v)
    | succ i => exact ih (Nat.lt_of_succ_lt_succ h)

/-- The read of a range that exists: its cells, high byte first. -/
theorem answerRegisters_data (addr fc : Byte) {start qty : Nat} {bank : List U16} (s : State)
    (h : start + qty ≤ bank.length) :
    ∃ d : List Byte, answerRegisters addr fc start qty bank s =
        .next (complete addr ([addr, fc, BitVec.ofNat 8 (2 * qty)] ++ d) s) ∧
      d.length = 2 * qty ∧
      ∀ i, i < qty → some (be16 (byteAt d (2 * i)) (byteAt d (2 * i + 1))) = bank[start + i]? := by
  have hlen : ((bank.drop start).take qty).length = qty := length_range h
  refine ⟨registerBytes ((bank.drop start).take qty), ?_, ?_, fun i hi => ?_⟩
  · rw [answerRegisters_eq _ _ _ _ _ _ h, registersBody, countByte, hlen]
  · rw [registerBytes_length, hlen]
  · rw [registerBytes_pair (by rwa [hlen]), getElem?_range bank start hi]

theorem readRegisters_normal (addr fc : Byte) {start qty : U16} {bank : List U16} (s : State) (hqty : 1 ≤ qty.toNat)
    (h : start.toNat + qty.toNat ≤ bank.length) :
    readRegisters addr fc start qty bank s = answerRegisters addr fc start.toNat qty.toNat bank s := by
  simp [readRegisters, (chkRead_eq_none _ _ _).mpr ⟨hqty, h⟩]

/-! ### The statements -/

/-- Settles O32: each request raises what the range check answers for its own bank. -/
theorem readRangeExceptions : Obligations.ReadRangeExceptions :=
  fun s addr _ _ => ⟨raises_of_chkRead fun _ => exec_rdi_exception addr,
    raises_of_chkRead fun _ => readRegisters_exception addr 0x04 s,
    raises_of_chkRead fun _ => readRegisters_exception addr 0x03 s⟩

/-- Settles O33: the bitmap of the range's cells. -/
theorem readDiscreteInputsPacksTheBits : Obligations.ReadDiscreteInputsPacksTheBits := by
  intro s addr start qty hqty h
  have hlen := length_range h
  refine ⟨packBits ((s.disc.drop start.toNat).take qty.toNat), ?_, ?_, fun i hi => ?_, fun i hi => ?_⟩
  · rw [exec_rdi_normal addr hqty h, discretesBody, hlen]
    rfl
  · rw [packBits_length, hlen]
  · rw [packBits_getLsbD, ← getElem?_range s.disc start.toNat hi, List.getD_eq_getElem _ _ (by rwa [hlen]),
      List.getElem?_eq_getElem]
  · rw [packBits_getLsbD, List.getD_eq_default _ _ (by rwa [hlen])]

/-- Settles O34: both are the one register read, each on its own bank. -/
theorem readRegistersReturnsTheCells : Obligations.ReadRegistersReturnsTheCells := by
  refine fun s addr start qty hqty => ⟨fun h => ?_, fun h => ?_⟩
  · obtain ⟨d, hd, hcells⟩ := answerRegisters_data addr 0x04 s h
    exact ⟨d, (readRegisters_normal addr 0x04 s hqty h).trans hd, hcells⟩
  · obtain ⟨d, hd, hcells⟩ := answerRegisters_data addr 0x03 s h
    exact ⟨d, (readRegisters_normal addr 0x03 s hqty h).trans hd, hcells⟩

end Sys2Proof.Machine
end

section
/-! PROOFS. The holding bank under `set_holding` and a run of writes (20_memory.md R82, R83, R290): which cells change,
and which persistence calls are made. -/

namespace Sys2Proof.Machine

/-! ### One cell -/

theorem setHolding_equal {i : Nat} {v : U16} {s : State} (h : s.hold[i]? = some v) :
    setHolding i v s = some (.ok, s) := by
  simp [setHolding, h]

theorem setHolding_persisted {i : Nat} {v old : U16} {s : State} (h : s.hold[i]? = some old) (hne : old ≠ v)
    (ha : persistAnswer s = .ok) : setHolding i v s = some (.ok, storeHolding i v (persisted i v s)) := by
  rcases setHolding_cases i v s with ⟨hlen, -⟩ | ⟨heq, -⟩ | ⟨_, -, -, hfail, -⟩ | ⟨_, -, -, -, e⟩
  · exact absurd (List.getElem?_eq_none hlen) (by simp [h])
  · exact absurd (Option.some.inj (h.symm.trans heq)) hne
  · exact absurd (ha.symm.trans hfail) nofun
  · exact e

theorem setHolding_failed {i : Nat} {v old : U16} {s : State} (h : s.hold[i]? = some old) (hne : old ≠ v)
    (ha : persistAnswer s = .fail) : setHolding i v s = some (.fail, persisted i v s) := by
  rcases setHolding_cases i v s with ⟨hlen, -⟩ | ⟨heq, -⟩ | ⟨_, -, -, -, e⟩ | ⟨_, -, -, hok, -⟩
  · exact absurd (List.getElem?_eq_none hlen) (by simp [h])
  · exact absurd (Option.some.inj (h.symm.trans heq)) hne
  · exact e
  · exact absurd (ha.symm.trans hok) nofun

theorem persisted_nvTrace (i : Nat) (v : U16) (s : State) :
    (persisted i v s).nvTrace = s.nvTrace ++ [⟨holdOffset s.cfg i, be16Bytes v, persistAnswer s⟩] := rfl

/-- A write that got `ok`: the cell holds the value, and a call was made exactly if it changed. -/
theorem setHolding_ok {a : Nat} {v : U16} {s t : State} (h : setHolding a v s = some (.ok, t)) :
    HoldsFirst s t a [v] 1 ∧ t.nvTrace = s.nvTrace ++ persistCalls s a [v] 1 := by
  rcases setHolding_cases a v s with ⟨-, e⟩ | ⟨heq, e⟩ | ⟨_, -, -, -, e⟩ | ⟨old, hold, hne, hok, e⟩
  · simp [e] at h
  · obtain rfl : s = t := by simpa [e] using h
    refine ⟨fun i => ?_, by simp [persistCalls, List.range_one, heq]⟩
    split
    · rw [show i = a by omega, heq, Nat.sub_self]
      rfl
    · rfl
  · simp [e] at h
  · obtain rfl : storeHolding a v (persisted a v s) = t := by simpa [e] using h
    obtain ⟨hlt, -⟩ := List.getElem?_eq_some_iff.mp hold
    refine ⟨fun i => ?_, ?_⟩
    · rw [storeHolding_hold, show (persisted a v s).hold = s.hold from rfl, List.getElem?_set]
      by_cases hi : a = i
      · subst hi
        simp [hlt]
      · rw [if_neg hi, if_neg (by omega)]
    · have hcall : persistCalls s a [v] 1 = [⟨holdOffset s.cfg a, be16Bytes v, .ok⟩] := by
        simp [persistCalls, List.range_one, hold, hne]
      rw [storeHolding_nvTrace, persisted_nvTrace, hok, hcall]

/-- A write that got `fail`: the cell was to change and did not. -/
theorem setHolding_fail {a : Nat} {v : U16} {s t : State} (h : setHolding a v s = some (.fail, t)) :
    s.hold[a]? ≠ some v ∧ persistAnswer s = .fail ∧ t.hold = s.hold ∧
      t.nvTrace = s.nvTrace ++ [⟨holdOffset s.cfg a, be16Bytes v, .fail⟩] := by
  rcases setHolding_cases a v s with ⟨-, e⟩ | ⟨-, e⟩ | ⟨old, hold, hne, hfail, e⟩ | ⟨_, -, -, -, e⟩
  · simp [e] at h
  · simp [e] at h
  · obtain rfl : persisted a v s = t := by simpa [e] using h
    exact ⟨by simp [hold, hne], hfail, rfl, by rw [persisted_nvTrace, hfail]⟩
  · simp [e] at h

/-! ### A run of cells -/

theorem holdsFirst_zero {s t : State} (h : t.hold = s.hold) (a : Nat) (vals : List U16) : HoldsFirst s t a vals 0 := by
  intro i
  rw [if_neg (by omega), h]

/-- The first cell and then the rest. -/
theorem HoldsFirst.cons {s u t : State} {a m : Nat} {v : U16} {vs : List U16} (hfirst : HoldsFirst s u a [v] 1)
    (hrest : HoldsFirst u t (a + 1) vs m) : HoldsFirst s t a (v :: vs) (m + 1) := by
  intro i
  rw [hrest i, hfirst i]
  rcases Nat.lt_trichotomy i a with hlt | rfl | hgt
  · simp [hlt.not_ge, show ¬a + 1 ≤ i by omega]
  · simp
  · obtain ⟨k, rfl⟩ := Nat.exists_eq_add_of_lt hgt
    simp [show a ≤ a + k + 1 by omega, show a + k + 1 - a = k + 1 by omega, show a + k + 1 - (a + 1) = k by omega,
      show a + k + 1 < a + 1 + m ↔ a + k + 1 < a + (m + 1) by omega]

theorem HoldsFirst.other {s t : State} {a m i : Nat} {vals : List U16} (h : HoldsFirst s t a vals m)
    (hi : ¬(a ≤ i ∧ i < a + m)) : t.hold[i]? = s.hold[i]? := by
  rw [h i, if_neg hi]

/-- The calls of a run are the call for its first cell, if it changes, and the calls of the rest. -/
theorem persistCalls_cons {s u : State} {a : Nat} {v : U16} (hcfg : u.cfg = s.cfg) (hfirst : HoldsFirst s u a [v] 1)
    (vs : List U16) (m : Nat) :
    persistCalls s a (v :: vs) (m + 1) = persistCalls s a [v] 1 ++ persistCalls u (a + 1) vs m := by
  have hidx (j : Nat) : a + 1 + j = a + (j + 1) := by omega
  have hcell (j : Nat) : u.hold[a + (j + 1)]? = s.hold[a + (j + 1)]? := hfirst.other (by omega)
  simp only [persistCalls, hcfg, hidx, hcell]
  rw [List.range_succ_eq_map, List.filter_cons, List.filter_map, List.range_one]
  by_cases hv : s.hold[a]? = some v <;> simp [hv, Function.comp_def]

/-- A run that was completed: all cells written, a call for each that changed. -/
theorem setHoldings_ok {a : Nat} {vals : List U16} {s t : State} (h : setHoldings a vals s = some (.ok, t)) :
    HoldsFirst s t a vals vals.length ∧ t.nvTrace = s.nvTrace ++ persistCalls s a vals vals.length := by
  induction vals generalizing a s with
  | nil =>
    obtain rfl : s = t := by simpa [setHoldings] using h
    exact ⟨holdsFirst_zero rfl a [], by simp [persistCalls]⟩
  | cons v vs ih =>
    unfold setHoldings at h
    rcases hv : setHolding a v s with _ | ⟨_ | _, u⟩
    · simp [hv] at h
    · obtain ⟨hcell, htrace⟩ := setHolding_ok hv
      obtain ⟨hcells, htraces⟩ := ih (by simpa [hv] using h)
      refine ⟨hcell.cons hcells, ?_⟩
      rw [htraces, htrace, List.append_assoc, List.length_cons,
        persistCalls_cons (setHolding_kept hv).cfg hcell vs vs.length]
    · simp [hv] at h

/-- A run that stopped: at a cell that was to change, with the cells before it written. -/
theorem setHoldings_fail {a : Nat} {vals : List U16} {s t : State} (h : setHoldings a vals s = some (.fail, t)) :
    ∃ m v, m < vals.length ∧ vals[m]? = some v ∧ s.hold[a + m]? ≠ some v ∧ HoldsFirst s t a vals m ∧
      t.nvTrace = s.nvTrace ++ persistCalls s a vals m ++ [⟨holdOffset s.cfg (a + m), be16Bytes v, .fail⟩] := by
  induction vals generalizing a s with
  | nil => simp [setHoldings] at h
  | cons v vs ih =>
    unfold setHoldings at h
    rcases hv : setHolding a v s with _ | ⟨_ | _, u⟩
    · simp [hv] at h
    · obtain ⟨hcell, htrace⟩ := setHolding_ok hv
      obtain ⟨m, w, hm, hw, hne, hcells, htraces⟩ := ih (by simpa [hv] using h)
      have hcfg := (setHolding_kept hv).cfg
      have hidx : a + 1 + m = a + (m + 1) := by omega
      refine ⟨m + 1, w, by simpa using hm, hw, ?_, hcell.cons hcells, ?_⟩
      · rwa [hcell.other (by omega), hidx] at hne
      · rw [htraces, htrace, persistCalls_cons hcfg hcell vs m, hcfg, hidx]
        simp only [List.append_assoc]
    · obtain rfl : u = t := by simpa [hv] using h
      obtain ⟨hne, -, hhold, htrace⟩ := setHolding_fail hv
      exact ⟨0, v, by simp, rfl, hne, holdsFirst_zero hhold a _, by simpa [persistCalls] using htrace⟩

/-- Where the coming answers are `ok`, so is the answer to a call, and the answers after it are too. -/
theorem setHolding_answers_ok {a n : Nat} {v : U16} {s t : State} {ans : PortAnswer}
    (h : setHolding a v s = some (ans, t)) (hok : ∀ k, k < n + 1 → s.nvAnswers[k]? = some .ok) :
    ans = .ok ∧ ∀ k, k < n → t.nvAnswers[k]? = some .ok := by
  have hanswer : persistAnswer s = .ok := by
    have h0 := hok 0 (Nat.succ_pos n)
    cases hl : s.nvAnswers <;> simp_all [persistAnswer, nextAnswer]
  rcases setHolding_cases a v s with ⟨-, e⟩ | ⟨-, e⟩ | ⟨_, -, -, hfail, -⟩ | ⟨_, -, -, -, e⟩
  · simp [e] at h
  · obtain ⟨rfl, rfl⟩ : .ok = ans ∧ s = t := by simpa [e] using h
    exact ⟨rfl, fun k hk => hok k (Nat.lt_succ_of_lt hk)⟩
  · exact absurd (hanswer.symm.trans hfail) nofun
  · obtain ⟨rfl, rfl⟩ : .ok = ans ∧ storeHolding a v (persisted a v s) = t := by simpa [e] using h
    refine ⟨rfl, fun k hk => ?_⟩
    have htail : (storeHolding a v (persisted a v s)).nvAnswers = s.nvAnswers.tail := rfl
    rw [htail, List.getElem?_tail]
    exact hok (k + 1) (Nat.succ_lt_succ hk)

theorem setHoldings_answers_ok {a : Nat} {vals : List U16} {s t : State} {ans : PortAnswer}
    (h : setHoldings a vals s = some (ans, t)) (hok : ∀ k, k < vals.length → s.nvAnswers[k]? = some .ok) :
    ans = .ok := by
  induction vals generalizing a s with
  | nil => simpa [setHoldings] using (congrArg (Option.map Prod.fst) h).symm
  | cons v vs ih =>
    unfold setHoldings at h
    rcases hv : setHolding a v s with _ | ⟨_ | _, u⟩
    · simp [hv] at h
    · obtain ⟨-, hok'⟩ := setHolding_answers_ok hv hok
      exact ih (by simpa [hv] using h) hok'
    · obtain ⟨hans, -⟩ := setHolding_answers_ok hv hok
      cases hans

/-- Whatever the answer, a run writes only cells it addresses. -/
theorem setHoldings_other {a i : Nat} {vals : List U16} {s t : State} {ans : PortAnswer}
    (h : setHoldings a vals s = some (ans, t)) (hi : ¬(a ≤ i ∧ i < a + vals.length)) : t.hold[i]? = s.hold[i]? := by
  cases ans with
  | ok =>
    obtain ⟨hcells, -⟩ := setHoldings_ok h
    exact hcells.other hi
  | fail =>
    obtain ⟨m, -, hm, -, -, hcells, -⟩ := setHoldings_fail h
    exact hcells.other (by omega)

/-! ### The register values of a request (R121, R122) -/

theorem registerValues_getElem? {data : List Byte} {i : Nat} (h : 2 * i + 1 < data.length) :
    (registerValues data)[i]? = some (be16 (byteAt data (2 * i)) (byteAt data (2 * i + 1))) := by
  induction data using registerValues.induct generalizing i with
  | case1 hi lo rest ih =>
    cases i with
    | zero => rfl
    | succ i => exact ih (by simp only [List.length_cons] at h; omega)
  | case2 data hne =>
    match data, hne with
    | [], _ => simp at h
    | [_], _ => simp at h
    | hi :: lo :: rest, hne => exact absurd rfl (hne hi lo rest)

end Sys2Proof.Machine
end

section
/-! PROOFS. The write requests (44_write_functions.md): validation, the writes, and what every request leaves unchanged. -/

namespace Sys2Proof.Machine

/-! ### The single writes (R280, R288) -/

theorem lt_of_setHolding {i : Nat} {v : U16} {s t : State} {ans : PortAnswer}
    (h : setHolding i v s = some (ans, t)) : i < s.hold.length := by
  by_contra hlen
  simp [setHolding, List.getElem?_eq_none (Nat.le_of_not_lt hlen)] at h

theorem exec_wsr_outside (addr : Byte) {reg : U16} (val : U16) {s : State} (h : s.hold.length ≤ reg.toNat) :
    exec (.wsr addr reg val) s = .next (raiseExc addr 0x06 .illegalAddress s) := by
  simp [exec, execWsr, h]

theorem exec_wsr_ok (addr : Byte) {reg val : U16} {s t : State} (h : setHolding reg.toNat val s = some (.ok, t)) :
    exec (.wsr addr reg val) s = .next (complete addr [addr, 0x06, hi8 reg, lo8 reg, hi8 val, lo8 val] t) := by
  simp only [exec, execWsr, (lt_of_setHolding h).not_ge, if_false, h]
  rfl

theorem exec_wsr_fail (addr : Byte) {reg val : U16} {s t : State} (h : setHolding reg.toNat val s = some (.fail, t)) :
    exec (.wsr addr reg val) s = .next (raiseExc addr 0x06 .deviceFailure t) := by
  simp [exec, execWsr, (lt_of_setHolding h).not_ge, h]

theorem exec_mwr_outside (addr : Byte) {ref : U16} (andMask orMask : U16) {s : State}
    (h : s.hold.length ≤ ref.toNat) :
    exec (.mwr addr ref andMask orMask) s = .next (raiseExc addr 0x16 .illegalAddress s) := by
  simp [exec, execMwr, h]

theorem exec_mwr_ok (addr : Byte) {ref andMask orMask cur : U16} {s t : State} (hcur : s.hold[ref.toNat]? = some cur)
    (h : setHolding ref.toNat (maskedValue cur andMask orMask) s = some (.ok, t)) :
    exec (.mwr addr ref andMask orMask) s = .next (complete addr
      [addr, 0x16, hi8 ref, lo8 ref, hi8 andMask, lo8 andMask, hi8 orMask, lo8 orMask] t) := by
  simp only [exec, execMwr, (lt_of_setHolding h).not_ge, if_false, hcur, h]
  rfl

theorem exec_mwr_fail (addr : Byte) {ref andMask orMask cur : U16} {s t : State}
    (hcur : s.hold[ref.toNat]? = some cur)
    (h : setHolding ref.toNat (maskedValue cur andMask orMask) s = some (.fail, t)) :
    exec (.mwr addr ref andMask orMask) s = .next (raiseExc addr 0x16 .deviceFailure t) := by
  simp [exec, execMwr, (lt_of_setHolding h).not_ge, hcur, h]

/-! ### The multiple writes (R282, R286) -/

theorem chkWrite_of_end {start qty size : Nat} (bc : Nat) (h : size < start + qty) :
    chkWrite start qty bc size = some .illegalAddress := if_pos h

theorem chkWrite_of_byteCount {start qty bc size : Nat} (h : start + qty ≤ size) (hbc : bc ≠ 2 * qty) :
    chkWrite start qty bc size = some .illegalData := by
  rw [chkWrite, if_neg h.not_gt, if_pos hbc]

theorem exec_wmr_exception (addr : Byte) {start qty : U16} {data : List Byte} {s : State} {code : ExcCode}
    (h : chkWrite start.toNat qty.toNat data.length s.hold.length = some code) :
    exec (.wmr addr start qty data) s = .next (raiseExc addr 0x10 code s) := by
  simp [exec, execWmr, h]

theorem exec_rwm_read_exception (addr : Byte) {rstart rqty : U16} (wstart wqty : U16) (wdata : List Byte) {s : State}
    {code : ExcCode} (h : chkRead rstart.toNat rqty.toNat s.hold.length = some code) :
    exec (.rwm addr rstart rqty wstart wqty wdata) s = .next (raiseExc addr 0x17 code s) := by
  simp [exec, execRwm, h]

theorem exec_rwm_write_exception (addr : Byte) {rstart rqty wstart wqty : U16} {wdata : List Byte} {s : State}
    {code : ExcCode} (hread : chkRead rstart.toNat rqty.toNat s.hold.length = none)
    (h : chkWrite wstart.toNat wqty.toNat wdata.length s.hold.length = some code) :
    exec (.rwm addr rstart rqty wstart wqty wdata) s = .next (raiseExc addr 0x17 code s) := by
  simp [exec, execRwm, hread, h]

theorem exec_wmr_ok (addr : Byte) {start qty : U16} {data : List Byte} {s t : State}
    (hw : chkWrite start.toNat qty.toNat data.length s.hold.length = none)
    (h : setHoldings start.toNat (registerValues data) s = some (.ok, t)) :
    exec (.wmr addr start qty data) s =
      .next (complete addr [addr, 0x10, hi8 start, lo8 start, hi8 qty, lo8 qty] t) := by
  simp only [exec, execWmr, hw, h]
  rfl

theorem exec_wmr_fail (addr : Byte) {start qty : U16} {data : List Byte} {s t : State}
    (hw : chkWrite start.toNat qty.toNat data.length s.hold.length = none)
    (h : setHoldings start.toNat (registerValues data) s = some (.fail, t)) :
    exec (.wmr addr start qty data) s = .next (raiseExc addr 0x10 .deviceFailure t) := by
  simp [exec, execWmr, hw, h]

/-- The read phase sees the bank after the write. -/
theorem exec_rwm_ok (addr : Byte) {rstart rqty wstart wqty : U16} {wdata : List Byte} {s t : State}
    (hread : chkRead rstart.toNat rqty.toNat s.hold.length = none)
    (hw : chkWrite wstart.toNat wqty.toNat wdata.length s.hold.length = none)
    (h : setHoldings wstart.toNat (registerValues wdata) s = some (.ok, t)) :
    exec (.rwm addr rstart rqty wstart wqty wdata) s =
      answerRegisters addr 0x17 rstart.toNat rqty.toNat t.hold t := by
  simp [exec, execRwm, hread, hw, h]

theorem exec_rwm_fail (addr : Byte) {rstart rqty wstart wqty : U16} {wdata : List Byte} {s t : State}
    (hread : chkRead rstart.toNat rqty.toNat s.hold.length = none)
    (hw : chkWrite wstart.toNat wqty.toNat wdata.length s.hold.length = none)
    (h : setHoldings wstart.toNat (registerValues wdata) s = some (.fail, t)) :
    exec (.rwm addr rstart rqty wstart wqty wdata) s = .next (raiseExc addr 0x17 .deviceFailure t) := by
  simp [exec, execRwm, hread, hw, h]

theorem registerValues_length_eq {data : List Byte} {n : Nat} (h : data.length = 2 * n) :
    (registerValues data).length = n := by
  rw [registerValues_length, h, Nat.mul_div_cancel_left n Nat.two_pos]

/-- A run of writes that was completed, from `s` to `t`. -/
def RunCompleted (s t : State) (a : Nat) (vals : List U16) : Prop :=
  HoldsFirst s t a vals vals.length ∧ t.nvTrace = s.nvTrace ++ persistCalls s a vals vals.length

/-- A run of writes that stopped at a failed call, from `s` to `t`. -/
def RunStopped (s t : State) (a : Nat) (vals : List U16) : Prop :=
  ∃ m v, m < vals.length ∧ vals[m]? = some v ∧ s.hold[a + m]? ≠ some v ∧ HoldsFirst s t a vals m ∧
    t.nvTrace = s.nvTrace ++ persistCalls s a vals m ++ [⟨holdOffset s.cfg (a + m), be16Bytes v, .fail⟩]

/-- Both ends of a run of writes inside the bank; where the coming answers are `ok` it is completed. -/
theorem setHoldings_run {a : Nat} {vals : List U16} {s : State} (h : a + vals.length ≤ s.hold.length) :
    ∃ t, (setHoldings a vals s = some (.ok, t) ∧ RunCompleted s t a vals) ∨
      (setHoldings a vals s = some (.fail, t) ∧ RunStopped s t a vals ∧
        ¬∀ k, k < vals.length → s.nvAnswers[k]? = some .ok) := by
  obtain ⟨_ | _, t, hrun⟩ := setHoldings_isSome a vals s h
  · exact ⟨t, .inl ⟨hrun, setHoldings_ok hrun⟩⟩
  · refine ⟨t, .inr ⟨hrun, setHoldings_fail hrun, fun hok => ?_⟩⟩
    cases setHoldings_answers_ok hrun hok

/-- What a completed run gives for both clauses of the statements about multiple writes. -/
theorem always_and_inl {completed answersOk stopped : Prop} (h : completed) :
    (answersOk → completed) ∧ (completed ∨ stopped) := ⟨fun _ => h, .inl h⟩

/-! ### The overlay arm (R284) -/

theorem exec_wmrOvl_idle (addr : Byte) (start qty : U16) (data : List Byte) {s : State}
    (h : s.upgInProgress = false) :
    exec (.wmrOvl addr start qty data) s = .next (raiseExc addr 0x10 .illegalAddress s) := by
  simp [exec, execWmrOvl, h, excOvlIdle]

theorem exec_wmrOvl_ok (addr : Byte) {start : U16} (qty : U16) {data : List Byte} {s t : State}
    (hupg : s.upgInProgress = true) (h : imgWrite (overlayOffset start.toNat) data s = (.ok, t)) :
    exec (.wmrOvl addr start qty data) s =
      .next (complete addr [addr, 0x10, hi8 start, lo8 start, hi8 qty, lo8 qty] t) := by
  simp only [exec, execWmrOvl, hupg, if_true, h]
  rfl

theorem exec_wmrOvl_fail (addr : Byte) {start : U16} (qty : U16) {data : List Byte} {s t : State}
    (hupg : s.upgInProgress = true) (h : imgWrite (overlayOffset start.toNat) data s = (.fail, t)) :
    exec (.wmrOvl addr start qty data) s = .next (raiseExc addr 0x10 .deviceFailure t) := by
  simp [exec, execWmrOvl, hupg, h]

/-! ### Which cells a request may write -/

/-- The first holding cell that a request addresses for writing; 0 where it writes none. -/
def writeStart : Instr → Nat
  | .wsr _ reg _ => reg.toNat
  | .mwr _ ref _ _ => ref.toNat
  | .wmr _ start _ _ => start.toNat
  | .rwm _ _ _ wstart _ _ => wstart.toNat
  | _ => 0

/-- How many holding cells a request addresses for writing. -/
def writeQty : Instr → Nat
  | .wsr _ _ _ => 1
  | .mwr _ _ _ _ => 1
  | .wmr _ _ qty _ => qty.toNat
  | .rwm _ _ _ _ wqty _ => wqty.toNat
  | _ => 0

/-- The request answers after a run of writes to cells it addresses, the empty run among them. -/
def WritesAddressed (i : Instr) (s : State) (o : Host.Outcome State Fault Refusal) : Prop :=
  ∃ body vals ans s', o = .next (complete (requestAddr i) body s') ∧ vals.length ≤ writeQty i ∧
    setHoldings (writeStart i) vals s = some (ans, s')

theorem setHoldings_one (a : Nat) (v : U16) (s : State) : setHoldings a [v] s = setHolding a v s := by
  rw [setHoldings]
  rcases setHolding a v s with _ | ⟨_ | _, t⟩ <;> rfl

/-- A request that answers from the state it found. -/
theorem WritesAddressed.of_unchanged {i : Instr} {s : State} {body : List Byte}
    {o : Host.Outcome State Fault Refusal} (h : o = .next (complete (requestAddr i) body s)) : WritesAddressed i s o :=
  ⟨body, [], .ok, s, h, Nat.zero_le _, rfl⟩

theorem exec_wsr_writes (addr : Byte) (reg val : U16) (s : State) :
    WritesAddressed (.wsr addr reg val) s (exec (.wsr addr reg val) s) := by
  rcases hv : setHolding reg.toNat val s with _ | ⟨_ | _, t⟩
  · have hout : s.hold.length ≤ reg.toNat := by
      by_contra hlt
      obtain ⟨_, _, he⟩ := setHolding_isSome val (Nat.lt_of_not_le hlt)
      cases he.symm.trans hv
    exact .of_unchanged (exec_wsr_outside addr val hout)
  · exact ⟨_, [val], _, t, exec_wsr_ok addr hv, le_rfl, (setHoldings_one _ _ _).trans hv⟩
  · exact ⟨_, [val], _, t, exec_wsr_fail addr hv, le_rfl, (setHoldings_one _ _ _).trans hv⟩

theorem exec_mwr_writes (addr : Byte) (ref andMask orMask : U16) (s : State) :
    WritesAddressed (.mwr addr ref andMask orMask) s (exec (.mwr addr ref andMask orMask) s) := by
  by_cases hout : s.hold.length ≤ ref.toNat
  · exact .of_unchanged (exec_mwr_outside addr andMask orMask hout)
  · have hlt := Nat.lt_of_not_le hout
    have hcur : s.hold[ref.toNat]? = some s.hold[ref.toNat] := List.getElem?_eq_getElem hlt
    obtain ⟨_ | _, t, hv⟩ := setHolding_isSome (maskedValue s.hold[ref.toNat] andMask orMask) hlt
    · exact ⟨_, [_], _, t, exec_mwr_ok addr hcur hv, le_rfl, (setHoldings_one _ _ _).trans hv⟩
    · exact ⟨_, [_], _, t, exec_mwr_fail addr hcur hv, le_rfl, (setHoldings_one _ _ _).trans hv⟩

theorem exec_wmr_writes (addr : Byte) (start qty : U16) (data : List Byte) (s : State) :
    WritesAddressed (.wmr addr start qty data) s (exec (.wmr addr start qty data) s) := by
  cases hw : chkWrite start.toNat qty.toNat data.length s.hold.length with
  | some code => exact .of_unchanged (exec_wmr_exception addr hw)
  | none =>
    obtain ⟨-, hbc⟩ := (chkWrite_eq_none _ _ _ _).mp hw
    have hlen := (registerValues_length_eq hbc).le
    obtain ⟨_ | _, t, hrun⟩ := setHoldings_of_chkWrite hw
    · exact ⟨_, _, _, t, exec_wmr_ok addr hw hrun, hlen, hrun⟩
    · exact ⟨_, _, _, t, exec_wmr_fail addr hw hrun, hlen, hrun⟩

theorem exec_rwm_writes (addr : Byte) (rstart rqty wstart wqty : U16) (wdata : List Byte) (s : State) :
    WritesAddressed (.rwm addr rstart rqty wstart wqty wdata) s (exec (.rwm addr rstart rqty wstart wqty wdata) s) := by
  cases hread : chkRead rstart.toNat rqty.toNat s.hold.length with
  | some code => exact .of_unchanged (exec_rwm_read_exception addr wstart wqty wdata hread)
  | none =>
    cases hw : chkWrite wstart.toNat wqty.toNat wdata.length s.hold.length with
    | some code => exact .of_unchanged (exec_rwm_write_exception addr hread hw)
    | none =>
      obtain ⟨-, hrange⟩ := (chkRead_eq_none _ _ _).mp hread
      obtain ⟨-, hbc⟩ := (chkWrite_eq_none _ _ _ _).mp hw
      have hlen := (registerValues_length_eq hbc).le
      obtain ⟨_ | _, t, hrun⟩ := setHoldings_of_chkWrite hw
      · have hanswer := answerRegisters_eq addr 0x17 rstart.toNat rqty.toNat t.hold t
          ((setHoldings_kept hrun).hold_length ▸ hrange)
        exact ⟨_, _, _, t, (exec_rwm_ok addr hread hw hrun).trans hanswer, hlen, hrun⟩
      · exact ⟨_, _, _, t, exec_rwm_fail addr hread hw hrun, hlen, hrun⟩

theorem exec_rdi_writes (addr : Byte) (start qty : U16) (s : State) :
    WritesAddressed (.rdi addr start qty) s (exec (.rdi addr start qty) s) := by
  cases hread : chkRead start.toNat qty.toNat s.disc.length with
  | some code => exact .of_unchanged (exec_rdi_exception addr hread)
  | none =>
    obtain ⟨hqty, hrange⟩ := (chkRead_eq_none _ _ _).mp hread
    exact .of_unchanged (exec_rdi_normal addr hqty hrange)

/-- A register read, of either bank, writes nothing. -/
theorem readRegisters_writes (i : Instr) (start qty : U16) (bank : List U16) (s : State) :
    WritesAddressed i s (readRegisters (requestAddr i) (requestFunction i) start qty bank s) := by
  cases hread : chkRead start.toNat qty.toNat bank.length with
  | some code => exact .of_unchanged (readRegisters_exception _ _ s hread)
  | none =>
    obtain ⟨hqty, hrange⟩ := (chkRead_eq_none _ _ _).mp hread
    exact .of_unchanged ((readRegisters_normal _ _ s hqty hrange).trans (answerRegisters_eq _ _ _ _ _ _ hrange))

/-- Every request but the overlay arm writes only holding cells it addresses. -/
theorem exec_request_writes {i : Instr} (h : i.isRequest = true)
    (hovl : ∀ addr start qty data, i ≠ .wmrOvl addr start qty data) (s : State) : WritesAddressed i s (exec i s) := by
  cases i
  case rdi addr start qty => exact exec_rdi_writes addr start qty s
  case rir addr start qty => exact readRegisters_writes (.rir addr start qty) start qty s.inp s
  case rhr addr start qty => exact readRegisters_writes (.rhr addr start qty) start qty s.hold s
  case wsr addr reg val => exact exec_wsr_writes addr reg val s
  case wmr addr start qty data => exact exec_wmr_writes addr start qty data s
  case rwm addr rstart rqty wstart wqty wdata => exact exec_rwm_writes addr rstart rqty wstart wqty wdata s
  case mwr addr ref andMask orMask => exact exec_mwr_writes addr ref andMask orMask s
  case wmrOvl addr start qty data => exact absurd rfl (hovl addr start qty data)
  case illegal addr fc payload => exact .of_unchanged (exec_illegal addr fc payload s)
  all_goals cases h

/-- The overlay arm answers from the state it found, or after one image write. -/
theorem exec_wmrOvl_effect (addr : Byte) (start qty : U16) (data : List Byte) (s : State) :
    ∃ body s', exec (.wmrOvl addr start qty data) s = .next (complete addr body s') ∧
      (s' = s ∨ s' = (imgWrite (overlayOffset start.toNat) data s).2) := by
  cases hupg : s.upgInProgress with
  | false => exact ⟨_, s, exec_wmrOvl_idle addr start qty data hupg, .inl rfl⟩
  | true =>
    rcases himg : imgWrite (overlayOffset start.toNat) data s with ⟨_ | _, t⟩
    · exact ⟨_, t, exec_wmrOvl_ok addr qty hupg himg, .inr rfl⟩
    · exact ⟨_, t, exec_wmrOvl_fail addr qty hupg himg, .inr rfl⟩

/-- A request that addresses no holding cell leaves the bank and its port. -/
theorem WritesAddressed.holding_kept {i : Instr} {s t : State} (h : WritesAddressed i s (.next t))
    (hnone : writeQty i = 0) : t.hold = s.hold ∧ t.nvTrace = s.nvTrace ∧ t.nvAnswers = s.nvAnswers := by
  obtain ⟨body, vals, ans, s', heq, hlen, hrun⟩ := h
  cases heq
  obtain rfl : vals = [] := List.eq_nil_of_length_eq_zero (by omega)
  obtain ⟨-, rfl⟩ : PortAnswer.ok = ans ∧ s = s' := by simpa [setHoldings] using hrun
  simp

theorem exec_wmrOvl_holding_kept {addr : Byte} {start qty : U16} {data : List Byte} {s t : State}
    (h : exec (.wmrOvl addr start qty data) s = .next t) :
    t.hold = s.hold ∧ t.nvTrace = s.nvTrace ∧ t.nvAnswers = s.nvAnswers := by
  obtain ⟨body, s', hnext, rfl | rfl⟩ := exec_wmrOvl_effect addr start qty data s
  · rw [hnext] at h; cases h; simp
  · rw [hnext] at h; cases h; simp

theorem WritesAddressed.image_kept {i : Instr} {s t : State} (h : WritesAddressed i s (.next t)) :
    t.imgTrace = s.imgTrace ∧ t.imgAnswers = s.imgAnswers ∧ t.inputs = s.inputs := by
  obtain ⟨body, vals, ans, s', heq, -, hrun⟩ := h
  cases heq
  have kept := setHoldings_kept hrun
  simp [kept.imgTrace, kept.imgAnswers, kept.inputs]

theorem WritesAddressed.cell_kept {i : Instr} {s t : State} (h : WritesAddressed i s (.next t)) {a : Nat}
    (ha : ¬(writeStart i ≤ a ∧ a < writeStart i + writeQty i)) : t.hold[a]? = s.hold[a]? := by
  obtain ⟨body, vals, ans, s', heq, hlen, hrun⟩ := h
  cases heq
  rw [complete_hold]
  exact setHoldings_other hrun (by omega)

/-- A request keeps all that a dispatch keeps, and the deadline. -/
theorem exec_request_undispatched {i : Instr} (hreq : i.isRequest = true) {s t : State} (h : exec i s = .next t) :
    undispatched t = undispatched s ∧ t.wdgDeadline = s.wdgDeadline := by
  obtain ⟨body, s', hnext, -, effect⟩ := exec_request_outcome hreq s
  rw [hnext] at h
  cases h
  rw [undispatched_complete, effect.undispatched_eq, complete_wdgDeadline, effect.wdgDeadline_eq]
  exact ⟨rfl, rfl⟩

/-! ### The statements -/

/-- Settles O35: the four cases of `set_holding`, each with the request's answer. -/
theorem writeSingleRegister : Obligations.WriteSingleRegister :=
  fun _ addr _ val => ⟨exec_wsr_outside addr val, fun heq => exec_wsr_ok addr (setHolding_equal heq),
    fun _ hold hne => ⟨fun hok => exec_wsr_ok addr (setHolding_persisted hold hne hok),
      fun hfail => exec_wsr_fail addr (setHolding_failed hold hne hfail)⟩⟩

/-- Settles O36: the masked value, written as a single write. -/
theorem maskWriteRegister : Obligations.MaskWriteRegister :=
  fun _ addr _ andMask orMask => ⟨exec_mwr_outside addr andMask orMask, fun _ hcur =>
    ⟨fun heq => exec_mwr_ok addr hcur (setHolding_equal (hcur.trans (congrArg some heq.symm))),
      fun hne hok => exec_mwr_ok addr hcur (setHolding_persisted hcur hne.symm hok),
      fun hne hfail => exec_mwr_fail addr hcur (setHolding_failed hcur hne.symm hfail)⟩⟩

/-- Settles O37: the checks come before any write, the read range's first. -/
theorem writeRangeExceptions : Obligations.WriteRangeExceptions := by
  intro s addr rstart rqty start qty data k
  obtain ⟨hstart, hzero, hend⟩ :=
    raises_of_chkRead (raised := fun code => .next (raiseExc addr 0x17 code s))
      fun _ => exec_rwm_read_exception addr (rstart := rstart) (rqty := rqty) (s := s) start qty data
  have hread (hqty : rqty ≠ 0) (hrange : rstart.toNat + rqty.toNat ≤ k) :=
    (chkRead_eq_none _ _ _).mpr ⟨one_le_toNat hqty, hrange⟩
  exact ⟨fun h => exec_wmr_exception addr (chkWrite_of_end _ h),
    fun h hbc => exec_wmr_exception addr (chkWrite_of_byteCount h hbc), hstart, hzero, hend,
    fun hqty hrange h => exec_rwm_write_exception addr (hread hqty hrange) (chkWrite_of_end _ h),
    fun hqty hrange h hbc => exec_rwm_write_exception addr (hread hqty hrange) (chkWrite_of_byteCount h hbc)⟩

/-- Settles O38: the run of writes is completed, or stops at the first failed call. -/
theorem writeMultipleRegisters : Obligations.WriteMultipleRegisters := by
  intro s addr start qty data hrange hbc
  have hlen := registerValues_length_eq hbc
  have hw := (chkWrite_eq_none _ _ _ _).mpr ⟨hrange, hbc⟩
  obtain ⟨t, hrun⟩ := setHoldings_run (s := s) (a := start.toNat) (vals := registerValues data) (by omega)
  refine ⟨registerValues data, t, hlen, fun i hi => registerValues_getElem? (by omega), ?_⟩
  rw [← hlen]
  rcases hrun with ⟨hrun, hcells, htrace⟩ | ⟨hrun, ⟨m, v, hm, hv, hne, hcells, htrace⟩, hanswers⟩
  · exact always_and_inl ⟨hcells, htrace, exec_wmr_ok addr hw hrun⟩
  · exact ⟨fun hok => absurd hok hanswers, .inr ⟨m, v, hm, hv, hne, hcells, htrace, exec_wmr_fail addr hw hrun⟩⟩

/-- Settles O39: the run of writes as above, and the read of the bank it leaves. -/
theorem readWriteMultipleWritesThenReads : Obligations.ReadWriteMultipleWritesThenReads := by
  intro s addr rstart rqty wstart wqty wdata hrqty hrrange hwrange hbc
  have hlen := registerValues_length_eq hbc
  have hread := (chkRead_eq_none _ _ _).mpr ⟨hrqty, hrrange⟩
  have hw := (chkWrite_eq_none _ _ _ _).mpr ⟨hwrange, hbc⟩
  obtain ⟨t, hrun⟩ := setHoldings_run (s := s) (a := wstart.toNat) (vals := registerValues wdata) (by omega)
  refine ⟨registerValues wdata, t, hlen, fun i hi => registerValues_getElem? (by omega), ?_⟩
  rw [← hlen]
  rcases hrun with ⟨hrun, hcells, htrace⟩ | ⟨hrun, ⟨m, v, hm, hv, hne, hcells, htrace⟩, hanswers⟩
  · obtain ⟨d, hd, hdata⟩ := answerRegisters_data addr 0x17 t ((setHoldings_kept hrun).hold_length ▸ hrrange)
    exact always_and_inl ⟨hcells, htrace, d, (exec_rwm_ok addr hread hw hrun).trans hd, hdata⟩
  · exact ⟨fun hok => absurd hok hanswers,
      .inr ⟨m, v, hm, hv, hne, hcells, htrace, exec_rwm_fail addr hread hw hrun⟩⟩

/-- Settles O40: the three cases of the overlay arm. -/
theorem overlayWriteForwardsTheBytes : Obligations.OverlayWriteForwardsTheBytes := by
  intro s addr start qty data _ answer forwarded
  refine ⟨exec_wmrOvl_idle addr start qty data, fun hupg hok => ?_, fun hupg hfail => ?_⟩
  · refine exec_wmrOvl_ok addr qty hupg (Prod.ext hok ?_)
    simp [imgWrite, show nextAnswer _ _ _ = PortAnswer.ok from hok, forwarded, answer, overlayOffset, Config.ovlBase]
  · refine exec_wmrOvl_fail addr qty hupg (Prod.ext hfail ?_)
    simp [imgWrite, show nextAnswer _ _ _ = PortAnswer.fail from hfail, forwarded, answer, overlayOffset, Config.ovlBase]

/-- Settles O41: the registers by the completion, the banks and ports by the run of writes and the image write. -/
theorem requestFrames : Obligations.RequestFrames := by
  intro s t i hreq hnext
  obtain ⟨hkept, hdeadline⟩ := exec_request_undispatched hreq hnext
  have kept {α : Type} (field : State → α) := undispatched_field hkept field
  have writes (hovl : ∀ addr start qty data, i ≠ .wmrOvl addr start qty data) : WritesAddressed i s (.next t) :=
    hnext ▸ exec_request_writes hreq hovl s
  refine ⟨⟨kept State.fb, kept State.crcrAcc, kept State.crcfAcc, kept State.crcfPoly, kept State.tmrArmed,
    kept State.tmrCnt, kept State.t35Reload, kept State.baud, kept State.addrBase, kept State.strap,
    kept State.slaveAddr, hdeadline, kept State.tickMs, kept State.disc, kept State.inp,
    kept State.upgInProgress, kept State.cfg, undispatched_hold_length hkept⟩, ?_, fun hovl => (writes hovl).image_kept,
    ?_, ?_, ?_, ?_⟩
  · rintro (⟨addr, start, qty, rfl | rfl | rfl⟩ | ⟨addr, start, qty, data, rfl⟩ | ⟨addr, fc, payload, rfl⟩)
    · exact (writes nofun).holding_kept rfl
    · exact (writes nofun).holding_kept rfl
    · exact (writes nofun).holding_kept rfl
    · exact exec_wmrOvl_holding_kept hnext
    · exact (writes nofun).holding_kept rfl
  · rintro addr reg val rfl a ha
    exact (writes nofun).cell_kept (by simp [writeStart, writeQty]; omega)
  · rintro addr ref x y rfl a ha
    exact (writes nofun).cell_kept (by simp [writeStart, writeQty]; omega)
  · rintro addr start qty data rfl a ha
    exact (writes nofun).cell_kept ha
  · rintro addr rstart rqty start qty data rfl a ha
    exact (writes nofun).cell_kept ha

end Sys2Proof.Machine
end

section
/-! PROOFS. What one step can do (00_scope.md R12): each event, and the next state it gives. -/

namespace Sys2Proof

/-! ### The word of an operation -/

theorem encode_of_operandOf {n operand : Nat} {make : BitVec n → Instr} {op : Nibble} {i : Instr}
    (hmake : ∀ v, encode (make v) = .operation ⟨op, v.toNat⟩) (h : operandOf n operand make = .ok i) :
    encode i = .operation ⟨op, operand⟩ := by
  by_cases hfit : operand < 2 ^ n
  · rw [operandOf, if_pos hfit] at h
    cases h
    rw [hmake, BitVec.toNat_ofNat, Nat.mod_eq_of_lt hfit]
  · rw [operandOf, if_neg hfit] at h
    cases h

theorem encode_of_noOperand {operand : Nat} {op : Nibble} {i j : Instr} (hj : encode j = .operation ⟨op, 0⟩)
    (h : noOperand operand j = .ok i) : encode i = .operation ⟨op, operand⟩ := by
  by_cases hzero : operand = 0
  · rw [noOperand, if_pos hzero] at h
    cases h
    rw [hj, hzero]
  · rw [noOperand, if_neg hzero] at h
    cases h

/-- An operation word decodes to the operation it encodes, or to a reserved one, whose operand is free (log 24). -/
theorem encode_of_decodeOperation {w : OpWord} {i : Instr} (h : decodeOperation w = .ok i) :
    encode i = .operation w ∨ i ∈ [.reservedB, .reservedC, .reservedD, .reservedE, .reservedF] := by
  obtain ⟨op, operand⟩ := w
  obtain rfl | rfl | rfl | rfl | rfl | rfl | rfl | rfl | rfl | rfl | rfl | hop : op = 0x0 ∨ op = 0x1 ∨ op = 0x2 ∨
      op = 0x3 ∨ op = 0x4 ∨ op = 0x5 ∨ op = 0x6 ∨ op = 0x7 ∨ op = 0x8 ∨ op = 0x9 ∨ op = 0xA ∨ 0xB ≤ op.toNat := by
    clear h
    revert op
    decide
  · exact .inl (encode_of_operandOf (fun _ => rfl) h)
  · exact .inl (encode_of_operandOf (fun _ => rfl) h)
  · exact .inl (encode_of_operandOf (fun _ => rfl) h)
  · exact .inl (encode_of_operandOf (fun _ => rfl) h)
  · exact .inl (encode_of_operandOf (fun _ => rfl) h)
  · exact .inl (encode_of_operandOf (fun _ => rfl) h)
  · exact .inl (encode_of_noOperand rfl h)
  · exact .inl (encode_of_noOperand rfl h)
  · cases h
    exact .inl rfl
  · exact .inl (encode_of_noOperand rfl h)
  · exact .inl (encode_of_noOperand rfl h)
  · obtain ⟨j, hj, hmem, -⟩ := Machine.reservedCodesAreRefused Machine.State.reset op operand hop
    cases h.symm.trans hj
    exact .inr hmem

/-- The word of an operation that is not reserved. -/
theorem word_of_decodeOperation {w v : OpWord} {i : Instr} (h : decodeOperation w = .ok i) (hv : encode i = .operation v)
    (hi : i ∉ [.reservedB, .reservedC, .reservedD, .reservedE, .reservedF]) : w = v := by
  rcases encode_of_decodeOperation h with hw | hmem
  · exact Code.operation.inj (hw.symm.trans hv)
  · exact absurd hmem hi

end Sys2Proof

namespace Sys2Proof.Machine

/-! ### Operations -/

/-- What the CRC unit's operations, MS.TICK, CFG.ADDR, and every event but a system reset keep: the receiver, the
transmitter, the deadline, the configuration and the size of each bank. -/
structure KeptByOthers (s t : State) : Prop where
  fb : t.fb = s.fb
  rxCur : t.rxCur = s.rxCur
  rxLen : t.rxLen = s.rxLen
  tmrArmed : t.tmrArmed = s.tmrArmed
  tmrCnt : t.tmrCnt = s.tmrCnt
  t35Reload : t.t35Reload = s.t35Reload
  baudWritten : t.baudWritten = s.baudWritten
  cfg : t.cfg = s.cfg
  de : t.de = s.de
  tx : t.tx = s.tx
  wdgDeadline : t.wdgDeadline = s.wdgDeadline
  disc_length : t.disc.length = s.disc.length
  inp_length : t.inp.length = s.inp.length
  hold_length : t.hold.length = s.hold.length
  tickMs_lt : s.tickMs < 2 ^ s.cfg.tickW → t.tickMs < 2 ^ s.cfg.tickW

theorem KeptByHolding.keptByOthers {s t : State} (h : KeptByHolding s t) : KeptByOthers s t := by
  constructor <;> simp [h.fb, h.rxCur, h.rxLen, h.tmrArmed, h.tmrCnt, h.t35Reload, h.baudWritten, h.cfg, h.de, h.tx,
    h.wdgDeadline, h.disc, h.inp, h.hold_length, h.tickMs]

/-- The three banks and the trace of persistence writes are as before. -/
def BanksKept (s t : State) : Prop :=
  t.hold = s.hold ∧ t.nvTrace = s.nvTrace ∧ t.disc = s.disc ∧ t.inp = s.inp

/-- What an operation of the first level that answers next does. -/
inductive OperationEffect (s : State) : Instr → State → Prop
  /-- Nothing to the receiver, the transmitter or the banks. -/
  | others {i : Instr} {t : State} (kept : KeptByOthers s t) (banks : BanksKept s t) : OperationEffect s i t
  /-- R184: a byte appended, the timer armed. -/
  | appended (b : Byte) (idle : s.rxLen = 0) (written : s.baudWritten = true) (room : s.rxCur < s.cfg.bufCap) :
    OperationEffect s (.rxByte b)
      { s with fb := s.fb.write s.rxCur b, rxCur := s.rxCur + 1, tmrCnt := s.t35Reload, tmrArmed := true }
  /-- R185: a byte dropped at a full buffer, the timer armed. -/
  | dropped (b : Byte) (idle : s.rxLen = 0) (written : s.baudWritten = true) (full : s.cfg.bufCap ≤ s.rxCur) :
    OperationEffect s (.rxByte b) { s with tmrCnt := s.t35Reload, tmrArmed := true }
  /-- R188: the timer counts. -/
  | counted (armed : s.tmrArmed = true) (more : 1 < s.tmrCnt) :
    OperationEffect s .tmrTick { s with tmrCnt := s.tmrCnt - 1 }
  /-- R192: the timer fires with a frame latched. -/
  | spared (armed : s.tmrArmed = true) (latched : s.rxLen ≠ 0) :
    OperationEffect s .tmrTick { s with tmrCnt := 0, tmrArmed := false }
  /-- R191: the timer fires, the gate is false. -/
  | emptied (armed : s.tmrArmed = true) (idle : s.rxLen = 0) :
    OperationEffect s .tmrTick { s with tmrCnt := 0, tmrArmed := false, rxCur := 0 }
  /-- R190: the timer fires, the gate is true. -/
  | latched (first : Byte) (armed : s.tmrArmed = true) (idle : s.rxLen = 0) (long : Config.minFrame ≤ s.rxCur)
    (read : s.fb.read 0 = some first) (addressed : first = 0 ∨ first = s.slaveAddr) :
    OperationEffect s .tmrTick { s with tmrCnt := 0, tmrArmed := false, rxLen := s.rxCur }
  /-- R194: the rate and the period. -/
  | programmed (rate : Nat) : OperationEffect s (.cfgBaud rate)
      { s with baud := rate, t35Reload := t35Period s.cfg rate, baudWritten := true }
  /-- R246: the latched frame is dispatched. -/
  | dispatched (frame : List Byte) {t : State} (latched : LatchedFrame s frame)
    (run : dispatch frame (resolveAddr s) = .next t) : OperationEffect s .loopIter t

theorem exec_rxByte_effect {b : Byte} {s t : State} (h : exec (.rxByte b) s = .next t) :
    OperationEffect s (.rxByte b) t := by
  rcases exec_rxByte_cases b s with ⟨-, e⟩ | ⟨-, -, e⟩ | ⟨idle, written, room, e⟩ | ⟨idle, written, full, e⟩
  · rw [e] at h; cases h; exact .others (by constructor <;> simp) ⟨rfl, rfl, rfl, rfl⟩
  · rw [e] at h; cases h
  · rw [e] at h; cases h; exact .appended b idle written room
  · rw [e] at h; cases h; exact .dropped b idle written full

theorem exec_tmrTick_effect {s t : State} (h : exec .tmrTick s = .next t) : OperationEffect s .tmrTick t := by
  rcases exec_tmrTick_cases s with ⟨-, e⟩ | ⟨-, -, e⟩ | ⟨armed, more, e⟩ | ⟨armed, -, e⟩
  · rw [e] at h; cases h; exact .others (by constructor <;> simp) ⟨rfl, rfl, rfl, rfl⟩
  · rw [e] at h; cases h
  · rw [e] at h; cases h; exact .counted armed more
  · rw [e] at h
    rcases fire_cases { s with tmrCnt := 0, tmrArmed := false } with
      ⟨latched, e⟩ | ⟨-, -, e⟩ | ⟨idle, -, -, e⟩ | ⟨f, -, -, -, e⟩ | ⟨first, idle, -, long, hfirst, e⟩
    · rw [e] at h; cases h; exact .spared armed latched
    · rw [e] at h; cases h
    · rw [e] at h; cases h; exact .emptied armed idle
    · rw [e] at h; cases h
    · obtain ⟨-, read⟩ := (frameByte_eq_ok _ _ _).mp hfirst
      rw [e] at h
      by_cases addr : first = 0 ∨ first = s.slaveAddr
      · rw [if_pos ((addressed_iff _ _).mpr addr)] at h; cases h; exact .latched first armed idle long read addr
      · rw [if_neg ((addressed_iff _ _).not.mpr addr)] at h; cases h; exact .emptied armed idle

theorem exec_cfgBaud_effect {rate : Nat} {s t : State} (h : exec (.cfgBaud rate) s = .next t) :
    OperationEffect s (.cfgBaud rate) t := by
  by_cases hrate : 1 ≤ rate
  · rw [exec_cfgBaud hrate] at h; cases h; exact .programmed rate
  · obtain rfl : rate = 0 := by omega
    cases h

theorem exec_loopIter_effect {s t : State} (h : exec .loopIter s = .next t) : OperationEffect s .loopIter t := by
  rcases exec_loopIter_next h with ⟨-, rfl⟩ | ⟨frame, latched, run⟩
  · exact .others (by constructor <;> simp) ⟨rfl, rfl, rfl, rfl⟩
  · exact .dispatched frame latched run

/-- The operations that keep the receiver and the banks. -/
theorem exec_others_kept {i : Instr} {s t : State} (h : exec i s = .next t) (hreq : i.isRequest = false)
    (hrx : ∀ b, i ≠ .rxByte b) (htmr : i ≠ .tmrTick) (hbaud : ∀ rate, i ≠ .cfgBaud rate) (hloop : i ≠ .loopIter) :
    KeptByOthers s t ∧ BanksKept s t := by
  cases i
  case crcrSeed seed => cases h; exact ⟨by constructor <;> simp, rfl, rfl, rfl, rfl⟩
  case crcrByte b =>
    cases hw : s.crcrAccWritten with
    | false => rw [exec_crcrByte_unwritten b hw] at h; cases h
    | true => rw [exec_crcrByte_written b hw] at h; cases h; exact ⟨by constructor <;> simp, rfl, rfl, rfl, rfl⟩
  case crcfSeed seed => cases h; exact ⟨by constructor <;> simp, rfl, rfl, rfl, rfl⟩
  case crcfByte b =>
    cases hw : s.crcfAccWritten with
    | false => rw [exec_crcfByte_unwritten b hw] at h; cases h
    | true => rw [exec_crcfByte_written b hw] at h; cases h; exact ⟨by constructor <;> simp, rfl, rfl, rfl, rfl⟩
  case crcfPoly p => cases h; exact ⟨by constructor <;> simp, rfl, rfl, rfl, rfl⟩
  case msTick => cases h; exact ⟨by constructor <;> simp [Nat.mod_lt], rfl, rfl, rfl, rfl⟩
  case cfgAddr => cases h; exact ⟨by constructor <;> simp, rfl, rfl, rfl, rfl⟩
  case rxByte b => exact absurd rfl (hrx b)
  case tmrTick => exact absurd rfl htmr
  case cfgBaud rate => exact absurd rfl (hbaud rate)
  case loopIter => exact absurd rfl hloop
  case reservedB | reservedC | reservedD | reservedE | reservedF => cases h
  all_goals cases hreq

/-- Everything an operation of the first level can do. -/
theorem exec_operation_effect {i : Instr} {s t : State} (hreq : i.isRequest = false) (h : exec i s = .next t) :
    OperationEffect s i t := by
  by_cases hrx : ∃ b, i = .rxByte b
  · obtain ⟨b, rfl⟩ := hrx
    exact exec_rxByte_effect h
  by_cases htmr : i = .tmrTick
  · exact htmr ▸ exec_tmrTick_effect (htmr ▸ h)
  by_cases hbaud : ∃ rate, i = .cfgBaud rate
  · obtain ⟨rate, rfl⟩ := hbaud
    exact exec_cfgBaud_effect h
  by_cases hloop : i = .loopIter
  · exact hloop ▸ exec_loopIter_effect (hloop ▸ h)
  obtain ⟨kept, banks⟩ := exec_others_kept h hreq (not_exists.mp hrx) htmr (not_exists.mp hbaud) hloop
  exact .others kept banks

/-! ### Other events -/

/-- The state after a system reset. -/
def afterReset (l : Launch) (s : State) : State :=
  { State.launch s.cfg l with
    inputs := s.inputs, nvAnswers := s.nvAnswers, imgAnswers := s.imgAnswers, nvTrace := s.nvTrace
    imgTrace := s.imgTrace }

theorem systemReset_same_size {l : Launch} {s : State} (hd : l.disc.length = s.disc.length)
    (hi : l.inp.length = s.inp.length) (hh : l.hold.length = s.hold.length) :
    systemReset l s = .next (afterReset l s) := if_pos ⟨hd, hi, hh⟩

theorem systemReset_next {l : Launch} {s t : State} (h : systemReset l s = .next t) :
    t = afterReset l s ∧ l.disc.length = s.disc.length ∧ l.inp.length = s.inp.length ∧
      l.hold.length = s.hold.length := by
  by_cases hsize : l.disc.length = s.disc.length ∧ l.inp.length = s.inp.length ∧ l.hold.length = s.hold.length
  · obtain ⟨hd, hi, hh⟩ := hsize
    rw [systemReset_same_size hd hi hh] at h
    cases h
    exact ⟨rfl, hd, hi, hh⟩
  · rw [systemReset, if_neg hsize] at h
    cases h

/-- `set_discrete`, an equation for the event. -/
theorem applyEvent_setDiscrete (i : Nat) (b : Bool) (s : State) :
    applyEvent (.setDiscrete i b) s =
      if i < s.disc.length then .next { s with disc := s.disc.set i b } else .refused .bankIndexOutOfRange := rfl

theorem applyEvent_setInput (i : Nat) (v : U16) (s : State) :
    applyEvent (.setInput i v) s =
      if i < s.inp.length then .next { s with inp := s.inp.set i v } else .refused .bankIndexOutOfRange := rfl

theorem applyEvent_setHolding_inside {i : Nat} {v : U16} {s t : State} {ans : PortAnswer}
    (h : setHolding i v s = some (ans, t)) : applyEvent (.setHolding i v) s = .next t := by
  simp [applyEvent, h]

theorem applyEvent_setHolding_outside {i : Nat} {v : U16} {s : State} (h : setHolding i v s = none) :
    applyEvent (.setHolding i v) s = .refused .bankIndexOutOfRange := by
  simp [applyEvent, h]

/-- An event that is no operation keeps the receiver, or is a system reset. -/
theorem applyEvent_effect {e : Input} {s t : State} (h : applyEvent e s = .next t) :
    KeptByOthers s t ∨ ∃ l, e = .systemReset l ∧ systemReset l s = .next t := by
  cases e with
  | operation w => cases h; exact .inl (by constructor <;> simp)
  | setDiscrete i b =>
    rw [applyEvent_setDiscrete] at h
    split at h
    · cases h; exact .inl (by constructor <;> simp)
    · cases h
  | setInput i v =>
    rw [applyEvent_setInput] at h
    split at h
    · cases h; exact .inl (by constructor <;> simp)
    · cases h
  | setHolding i v =>
    rcases hv : setHolding i v s with _ | ⟨ans, u⟩
    · rw [applyEvent_setHolding_outside hv] at h; cases h
    · rw [applyEvent_setHolding_inside hv] at h; cases h
      exact .inl (setHolding_kept hv).keptByOthers
  | setUpgInProgress b => cases h; exact .inl (by constructor <;> simp)
  | setAddrBase b => cases h; exact .inl (by constructor <;> simp)
  | setStrap x => cases h; exact .inl (by constructor <;> simp)
  | systemReset l => exact .inr ⟨l, rfl, h⟩

/-! ### Steps -/

/-- What a step that answers next does: nothing to the receiver, an operation, or a system reset. -/
inductive StepEffect (s t : State) : Prop
  | others (kept : KeptByOthers s t)
  | operation {w : OpWord} {rest : List Input} {i : Instr} (event : s.inputs = .operation w :: rest)
    (dec : decodeOperation w = .ok i) (effect : OperationEffect { s with inputs := rest } i t)
  | reset {l : Launch} {rest : List Input} (event : s.inputs = .systemReset l :: rest)
    (run : systemReset l { s with inputs := rest } = .next t)

/-- The list of coming events is no part of the receiver. -/
theorem keptByOthers_of_inputs {s t : State} {rest : List Input} (h : KeptByOthers { s with inputs := rest } t) :
    KeptByOthers s t := { h with }

theorem step_effect {s t : State} (h : step s = .next t) : configOk s = true ∧ StepEffect s t := by
  rcases step_cases s with ⟨-, e⟩ | ⟨hc, -, e⟩ | ⟨w, rest, i, hc, event, dec, e⟩ | ⟨w, rest, r, -, -, -, e⟩ |
    ⟨ev, rest, hc, event, -, e⟩
  · rw [e] at h; cases h
  · rw [e] at h; cases h; exact ⟨hc, .others (by constructor <;> simp)⟩
  · exact ⟨hc, .operation event dec (exec_operation_effect (decodeOperation_isRequest dec) (e ▸ h))⟩
  · rw [e] at h; cases h
  · rcases applyEvent_effect (e ▸ h) with kept | ⟨l, rfl, run⟩
    · exact ⟨hc, .others (keptByOthers_of_inputs kept)⟩
    · exact ⟨hc, .reset event run⟩

/-- A step whose event is no operation. -/
theorem step_event {s : State} {e : Input} {rest : List Input} (hc : configOk s = true) (hi : s.inputs = e :: rest)
    (he : ∀ w, e ≠ .operation w) : step s = applyEvent e { s with inputs := rest } := by
  rcases step_cases s with ⟨hc', -⟩ | ⟨-, hi', -⟩ | ⟨w, _, _, -, hi', -, -⟩ | ⟨w, _, _, -, hi', -, -⟩ |
    ⟨_, _, -, hi', -, hstep⟩
  · exact absurd (hc.symm.trans hc') nofun
  · cases hi.symm.trans hi'
  · cases hi.symm.trans hi'; exact absurd rfl (he w)
  · cases hi.symm.trans hi'; exact absurd rfl (he w)
  · cases hi.symm.trans hi'; exact hstep

/-- The limits of R6 and R8, written out (log 13 for the timer's). -/
theorem configOk_iff (s : State) :
    configOk s = true ↔ 1 ≤ s.disc.length ∧ s.disc.length ≤ 2000 ∧ 1 ≤ s.inp.length ∧ s.inp.length ≤ 125 ∧
      1 ≤ s.hold.length ∧ s.hold.length ≤ 125 ∧ 5 ≤ s.cfg.bufCap ∧ 1 ≤ s.cfg.fTmr := by
  simp only [configOk, Bool.and_eq_true, decide_eq_true_eq, and_assoc]
  exact Iff.rfl

/-! ### The statements -/

/-- Settles O56: the model's own law of a step. -/
theorem stepRunsTheDecodedOperation : Obligations.StepRunsTheDecodedOperation :=
  fun _ _ _ _ hc hi hdec => step_operation hc hi hdec

/-- Settles O57: the configuration is checked first; then the event list decides. -/
theorem stepRefusesWhatTheSpecGivesNoMeaning : Obligations.StepRefusesWhatTheSpecGivesNoMeaning := by
  refine fun s => ⟨fun hsize => ?_, fun hc => ⟨fun hi => ?_, fun w rest r hi hdec => ?_⟩⟩
  · have hbad : configOk s = false := by
      refine Bool.eq_false_iff.mpr fun hc => ?_
      rw [configOk_iff] at hc
      simp only [← List.length_eq_zero_iff] at hsize
      omega
    simp [step, hbad]
  · simp [step, hc, fetch, hi]
  · simp [step, hc, fetch, hi, hdec]

/-- Settles O58: an equation for each event. -/
theorem collaboratorsWriteBetweenOperations : Obligations.CollaboratorsWriteBetweenOperations := by
  intro s rest hc
  refine ⟨fun i b hi => step_event hc hi nofun, fun i v hi => step_event hc hi nofun,
    fun i v hi => ⟨fun hout => ?_, fun hlt => ?_⟩, fun b hi => step_event hc hi nofun,
    fun b hi => step_event hc hi nofun, fun x hi => step_event hc hi nofun⟩
  · have hnone : setHolding i v { s with inputs := rest } = none := by
      simp [setHolding, List.getElem?_eq_none hout]
    rw [step_event hc hi nofun, applyEvent_setHolding_outside hnone]
  · obtain ⟨answer, t, hv⟩ := setHolding_isSome (s := { s with inputs := rest }) v hlt
    exact ⟨answer, t, hv, (step_event hc hi nofun).trans (applyEvent_setHolding_inside hv)⟩

/-- Settles O59: the reset state field by field. -/
theorem systemResetRestoresTheResetState : Obligations.SystemResetRestoresTheResetState := by
  intro s l rest hc hi hd hin hh
  refine ⟨_, (step_event hc hi nofun).trans (systemReset_same_size hd hin hh), ?_⟩
  simp [afterReset, State.launch]

/-- Settles O60: the launch state field by field. -/
theorem resetLeavesTheReceiverIdle : Obligations.ResetLeavesTheReceiverIdle :=
  fun _ _ => ⟨rfl, rfl, rfl, rfl, rfl, rfl, rfl, rfl, rfl, rfl, rfl, rfl, Nat.mod_eq_of_lt, rfl, rfl, rfl, rfl,
    fun _ => rfl, rfl⟩

end Sys2Proof.Machine
end

section
/-! PROOFS. What every step keeps (10_state.md R8, R26, R31, R38 to R45): the invariant, the latched frame, the
transmitted frames, the configuration and the banks. -/

namespace Sys2Proof.Machine

/-! ### The configuration and the bank sizes -/

/-- Two states of one configuration and one size of each bank. -/
def SameConfiguration (s t : State) : Prop :=
  t.cfg = s.cfg ∧ t.disc.length = s.disc.length ∧ t.inp.length = s.inp.length ∧ t.hold.length = s.hold.length

theorem KeptByOthers.sameConfiguration {s t : State} (h : KeptByOthers s t) : SameConfiguration s t :=
  ⟨h.cfg, h.disc_length, h.inp_length, h.hold_length⟩

theorem dispatch_sameConfiguration {frame : List Byte} {s t : State} (h : dispatch frame (resolveAddr s) = .next t) :
    SameConfiguration s t := by
  have hkept := dispatch_undispatched h
  have kept {α : Type} (field : State → α) := undispatched_field hkept field
  exact ⟨kept State.cfg, congrArg List.length (kept State.disc), congrArg List.length (kept State.inp),
    undispatched_hold_length (s := resolveAddr s) hkept⟩

theorem OperationEffect.sameConfiguration {i : Instr} {s t : State} (h : OperationEffect s i t) :
    SameConfiguration s t := by
  cases h with
  | others kept => exact kept.sameConfiguration
  | dispatched frame _ run => exact dispatch_sameConfiguration run
  | appended | dropped | counted | spared | emptied | latched | programmed => exact ⟨rfl, rfl, rfl, rfl⟩

theorem StepEffect.sameConfiguration {s t : State} (h : StepEffect s t) : SameConfiguration s t := by
  cases h with
  | others kept => exact kept.sameConfiguration
  | operation _ _ effect => exact effect.sameConfiguration
  | reset _ run =>
    obtain ⟨rfl, hd, hi, hh⟩ := systemReset_next run
    exact ⟨rfl, hd, hi, hh⟩

theorem SameConfiguration.configOk {s t : State} (h : SameConfiguration s t) : configOk t = configOk s := by
  obtain ⟨hcfg, hd, hi, hh⟩ := h
  simp only [Machine.configOk, hcfg, hd, hi, hh]

/-! ### The transmitted frames -/

theorem OperationEffect.tx {i : Instr} {s t : State} (h : OperationEffect s i t) :
    t.tx = s.tx ∨ i = .loopIter ∧ ∃ r, t.tx = s.tx ++ [r] := by
  cases h with
  | others kept => exact .inl kept.tx
  | dispatched frame _ run =>
    obtain ⟨-, htx⟩ := dispatch_outputs (s := resolveAddr s) run
    exact htx.imp_right fun h => ⟨rfl, h⟩
  | appended | dropped | counted | spared | emptied | latched | programmed => exact .inl rfl

/-! ### The invariant -/

theorem ReceiverInv.of_kept {s t : State} (inv : ReceiverInv s) (h : KeptByOthers s t) : ReceiverInv t where
  fb_wf := by rw [h.fb]; exact inv.fb_wf
  fb_bounded := by rw [h.fb, h.cfg]; exact inv.fb_bounded
  cur_le := by rw [h.rxCur, h.cfg]; exact inv.cur_le
  written := by rw [h.rxCur, h.fb]; exact inv.written
  latched_disarmed := by rw [h.rxLen, h.tmrArmed]; exact inv.latched_disarmed
  latched_len := by rw [h.rxLen, h.rxCur, h.cfg]; exact inv.latched_len
  idle_empty := by rw [h.rxLen, h.tmrArmed, h.rxCur]; exact inv.idle_empty
  armed_running := by rw [h.tmrArmed, h.tmrCnt, h.rxCur]; exact inv.armed_running
  reload_pos := by rw [h.baudWritten, h.t35Reload]; exact inv.reload_pos

theorem Inv.of_kept {s t : State} (inv : Inv s) (h : KeptByOthers s t) : Inv t where
  receiver := inv.receiver.of_kept h
  outputs := {
    de_low := h.de.trans inv.outputs.de_low
    tick_lt := by rw [h.cfg]; exact h.tickMs_lt inv.outputs.tick_lt
    deadline_lt := by rw [h.cfg, h.wdgDeadline]; exact inv.outputs.deadline_lt }

/-- R184: the appended cell is below the capacity and is the one the cursor passes. -/
theorem ReceiverInv.appended {s : State} (inv : ReceiverInv s) (b : Byte) (idle : s.rxLen = 0)
    (written : s.baudWritten = true) (room : s.rxCur < s.cfg.bufCap) :
    ReceiverInv
      { s with fb := s.fb.write s.rxCur b, rxCur := s.rxCur + 1, tmrCnt := s.t35Reload, tmrArmed := true } where
  fb_wf := Memory.wf_write _ _ _ inv.fb_wf
  fb_bounded a ha := by
    rw [Memory.read_write] at ha
    split at ha
    · exact (‹a = s.rxCur› ▸ room)
    · exact inv.fb_bounded a ha
  cur_le := room
  written a ha := by
    rw [Memory.read_write]
    split
    · rfl
    · exact inv.written a (Nat.lt_of_le_of_ne (Nat.le_of_lt_succ ha) ‹_›)
  latched_disarmed hlen := absurd idle hlen
  latched_len hlen := absurd idle hlen
  idle_empty _ := nofun
  armed_running _ := ⟨inv.reload_pos written, Nat.succ_pos _⟩
  reload_pos := inv.reload_pos

/-- R185: a full buffer is not empty. -/
theorem ReceiverInv.dropped {s : State} (inv : ReceiverInv s) (idle : s.rxLen = 0) (written : s.baudWritten = true)
    (nonempty : 1 ≤ s.rxCur) : ReceiverInv { s with tmrCnt := s.t35Reload, tmrArmed := true } :=
  { inv with
    latched_disarmed := fun hlen => absurd idle hlen
    idle_empty := fun _ => nofun
    armed_running := fun _ => ⟨inv.reload_pos written, nonempty⟩ }

/-- R191: an empty idle buffer. -/
theorem ReceiverInv.emptied {s : State} (inv : ReceiverInv s) (idle : s.rxLen = 0) :
    ReceiverInv { s with tmrCnt := 0, tmrArmed := false, rxCur := 0 } :=
  { inv with
    cur_le := Nat.zero_le _
    written := fun _ => nofun
    latched_disarmed := fun hlen => absurd idle hlen
    latched_len := fun hlen => absurd idle hlen
    idle_empty := fun _ _ => rfl
    armed_running := nofun }

/-- R190: the latch takes the cursor. -/
theorem ReceiverInv.latched {s : State} (inv : ReceiverInv s) (long : Config.minFrame ≤ s.rxCur) :
    ReceiverInv { s with tmrCnt := 0, tmrArmed := false, rxLen := s.rxCur } :=
  { inv with
    latched_disarmed := fun _ => rfl
    latched_len := fun _ => ⟨rfl, long, inv.cur_le⟩
    idle_empty := fun hlen _ => hlen
    armed_running := nofun }

theorem LatchedFrame.rxLen_ne_zero {s : State} {frame : List Byte} (h : LatchedFrame s frame) : s.rxLen ≠ 0 := by
  obtain ⟨hlen, hmin, -⟩ := h
  unfold Config.minFrame at hmin
  omega

/-- R244: the latch and the cursor are released, and the timer was disarmed (I1). -/
theorem ReceiverInv.dispatched {frame : List Byte} {s t : State} (inv : ReceiverInv s) (latched : LatchedFrame s frame)
    (run : dispatch frame (resolveAddr s) = .next t) : ReceiverInv t := by
  have kept {α : Type} (field : State → α) := undispatched_field (dispatch_undispatched run) field
  have hfb : t.fb = s.fb := kept State.fb
  have hcfg : t.cfg = s.cfg := kept State.cfg
  have hreload : t.t35Reload = s.t35Reload := kept State.t35Reload
  have hwritten : t.baudWritten = s.baudWritten := kept State.baudWritten
  have hdisarmed : t.tmrArmed = false :=
    (kept State.tmrArmed).trans (inv.latched_disarmed latched.rxLen_ne_zero)
  obtain ⟨u, hu, hlen, hcur, -⟩ := dispatch_completes frame (resolveAddr s)
  cases run.symm.trans hu
  exact {
    fb_wf := hfb ▸ inv.fb_wf
    fb_bounded := by rw [hfb, hcfg]; exact inv.fb_bounded
    cur_le := by rw [hcur]; exact Nat.zero_le _
    written := fun a ha => absurd (hcur ▸ ha) (Nat.not_lt_zero a)
    latched_disarmed := fun h => absurd hlen h
    latched_len := fun h => absurd hlen h
    idle_empty := fun _ _ => hcur
    armed_running := fun h => absurd (h.symm.trans hdisarmed) nofun
    reload_pos := by rw [hwritten, hreload]; exact inv.reload_pos }

/-- R242, R226: the line is low again, and the deadline is taken modulo the tick's range. -/
theorem OutputInv.dispatched {frame : List Byte} {s t : State} (inv : OutputInv s)
    (run : dispatch frame (resolveAddr s) = .next t) : OutputInv t := by
  have kept {α : Type} (field : State → α) := undispatched_field (dispatch_undispatched run) field
  have hcfg : t.cfg = s.cfg := kept State.cfg
  have htick : t.tickMs = s.tickMs := kept State.tickMs
  obtain ⟨hde, -⟩ := dispatch_outputs run
  obtain ⟨u, hu, -, -, hdeadline⟩ := dispatch_completes frame (resolveAddr s)
  cases run.symm.trans hu
  refine ⟨hde inv.de_low, by rw [hcfg, htick]; exact inv.tick_lt, ?_⟩
  rw [hcfg, hdeadline]
  split
  · exact Nat.mod_lt _ (Nat.two_pow_pos _)
  · exact inv.deadline_lt

/-- Every operation of the first level keeps the invariant. -/
theorem OperationEffect.inv {i : Instr} {s t : State} (h : OperationEffect s i t) (hc : configOk s = true)
    (inv : Inv s) : Inv t := by
  obtain ⟨-, -, -, -, -, -, hcap, hclock⟩ := (configOk_iff s).mp hc
  cases h with
  | others kept => exact inv.of_kept kept
  | appended b idle written room => exact ⟨inv.receiver.appended b idle written room, { inv.outputs with }⟩
  | dropped b idle written full =>
    exact ⟨inv.receiver.dropped idle written (show 1 ≤ s.rxCur by omega), { inv.outputs with }⟩
  | counted armed more =>
    obtain ⟨-, hcur⟩ := inv.receiver.armed_running armed
    exact ⟨{ inv.receiver with armed_running := fun _ => ⟨Nat.le_sub_one_of_lt more, hcur⟩ }, { inv.outputs with }⟩
  | spared armed latched => exact absurd (armed.symm.trans (inv.receiver.latched_disarmed latched)) nofun
  | emptied armed idle => exact ⟨inv.receiver.emptied idle, { inv.outputs with }⟩
  | latched first armed idle long => exact ⟨inv.receiver.latched long, { inv.outputs with }⟩
  | programmed rate =>
    exact ⟨{ inv.receiver with reload_pos := fun _ => one_le_t35Period s.cfg rate hclock }, { inv.outputs with }⟩
  | dispatched frame latched run => exact ⟨inv.receiver.dispatched latched run, inv.outputs.dispatched run⟩

/-- The launch state: idle, disarmed, nothing written. -/
theorem inv_launch (cfg : Config) (l : Launch) : Inv (State.launch cfg l) where
  receiver := {
    fb_wf := rfl
    fb_bounded := fun _ => nofun
    cur_le := Nat.zero_le _
    written := fun _ => nofun
    latched_disarmed := fun _ => rfl
    latched_len := fun h => absurd rfl h
    idle_empty := fun _ _ => rfl
    armed_running := nofun
    reload_pos := nofun }
  outputs := ⟨rfl, Nat.mod_lt _ (Nat.two_pow_pos _), Nat.two_pow_pos _⟩

/-- The list of coming events is no part of the invariant. -/
theorem Inv.of_inputs {s : State} (inv : Inv s) (rest : List Input) : Inv { s with inputs := rest } :=
  ⟨{ inv.receiver with }, { inv.outputs with }⟩

theorem inv_afterReset (l : Launch) (s : State) : Inv (afterReset l s) :=
  have inv := inv_launch s.cfg l
  ⟨{ inv.receiver with }, { inv.outputs with }⟩

theorem StepEffect.inv {s t : State} (h : StepEffect s t) (hc : configOk s = true) (inv : Inv s) : Inv t := by
  cases h with
  | others kept => exact inv.of_kept kept
  | operation _ _ effect => exact effect.inv hc (inv.of_inputs _)
  | reset _ run =>
    obtain ⟨rfl, -⟩ := systemReset_next run
    exact inv_afterReset _ _

/-! ### No fault -/

/-- A latched frame is there to be read, so LOOP.ITER completes. -/
theorem exec_loopIter_ne_fault {s : State} (inv : ReceiverInv s) (f : Fault) : exec .loopIter s ≠ .fault f := by
  by_cases hidle : s.rxLen = 0
  · rw [exec_loopIter_idle hidle]
    nofun
  · obtain ⟨hcur, hmin, hcap⟩ := inv.latched_len hidle
    obtain ⟨frame, hbytes, hlen⟩ := frameBytes_ok s 0 s.rxLen fun i _ hi =>
      ⟨by omega, inv.written i (by omega)⟩
    obtain ⟨t, ht, -⟩ := everyDispatchCompletesAndReleases s frame ⟨hlen.symm, hlen ▸ hmin, hlen ▸ hbytes⟩
    rw [ht]
    nofun

/-- An armed timer has a count, and a fire on at least 5 bytes finds the first of them. -/
theorem exec_tmrTick_ne_fault {s : State} (inv : ReceiverInv s) (f : Fault) : exec .tmrTick s ≠ .fault f := by
  rcases exec_tmrTick_cases s with ⟨-, e⟩ | ⟨armed, zero, -⟩ | ⟨-, -, e⟩ | ⟨-, -, e⟩
  · rw [e]; nofun
  · obtain ⟨hcnt, -⟩ := inv.armed_running armed
    omega
  · rw [e]; nofun
  · rw [e]
    rcases fire_cases { s with tmrCnt := 0, tmrArmed := false } with
      ⟨-, e⟩ | ⟨-, -, e⟩ | ⟨-, -, -, e⟩ | ⟨f', -, long, hread, -⟩ | ⟨first, -, -, -, -, e⟩
    · rw [e]; nofun
    · rw [e]; nofun
    · rw [e]; nofun
    · have hcur : 0 < s.rxCur := Nat.lt_of_lt_of_le (by decide) long
      obtain ⟨first, hfirst⟩ := Option.isSome_iff_exists.mp (inv.written 0 hcur)
      have hcap : 0 < s.cfg.bufCap := Nat.lt_of_lt_of_le hcur inv.cur_le
      cases hread.symm.trans ((frameByte_eq_ok _ 0 first).mpr ⟨hcap, hfirst⟩)
    · rw [e]; nofun

theorem exec_operation_ne_fault {i : Instr} {s : State} (hreq : i.isRequest = false) (inv : ReceiverInv s)
    (f : Fault) : exec i s ≠ .fault f := by
  cases i
  case tmrTick => exact exec_tmrTick_ne_fault inv f
  case loopIter => exact exec_loopIter_ne_fault inv f
  case rxByte b => rcases exec_rxByte_cases b s with ⟨-, e⟩ | ⟨-, -, e⟩ | ⟨-, -, -, e⟩ | ⟨-, -, -, e⟩ <;> rw [e] <;> nofun
  case crcrByte b =>
    cases hw : s.crcrAccWritten with
    | false => rw [exec_crcrByte_unwritten b hw]; nofun
    | true => rw [exec_crcrByte_written b hw]; nofun
  case crcfByte b =>
    cases hw : s.crcfAccWritten with
    | false => rw [exec_crcfByte_unwritten b hw]; nofun
    | true => rw [exec_crcfByte_written b hw]; nofun
  case cfgBaud rate =>
    by_cases hrate : 1 ≤ rate
    · rw [exec_cfgBaud hrate]; nofun
    · obtain rfl : rate = 0 := by omega
      nofun
  case crcrSeed | crcfSeed | crcfPoly | msTick | cfgAddr | reservedB | reservedC | reservedD | reservedE | reservedF =>
    nofun
  all_goals cases hreq

theorem applyEvent_ne_fault (e : Input) (s : State) (f : Fault) : applyEvent e s ≠ .fault f := by
  cases e with
  | operation | setUpgInProgress | setAddrBase | setStrap => nofun
  | setDiscrete i b => rw [applyEvent_setDiscrete]; split <;> nofun
  | setInput i v => rw [applyEvent_setInput]; split <;> nofun
  | setHolding i v =>
    rcases hv : setHolding i v s with _ | ⟨ans, t⟩
    · rw [applyEvent_setHolding_outside hv]; nofun
    · rw [applyEvent_setHolding_inside hv]; nofun
  | systemReset l =>
    show systemReset l s ≠ .fault f
    unfold systemReset
    split <;> nofun

/-! ### The upper bound of I4 -/

theorem CountWithinReload.of_kept {s t : State} (bound : CountWithinReload s) (h : KeptByOthers s t) :
    CountWithinReload t := by
  unfold CountWithinReload
  rw [h.tmrArmed, h.tmrCnt, h.t35Reload]
  exact bound

theorem OperationEffect.countWithinReload {i : Instr} {s t : State} (h : OperationEffect s i t)
    (hbaud : ∀ rate, i ≠ .cfgBaud rate) (bound : CountWithinReload s) : CountWithinReload t := by
  cases h with
  | others kept => exact bound.of_kept kept
  | appended | dropped => exact fun _ => le_rfl
  | counted armed => exact fun _ => Nat.le_trans (Nat.sub_le _ _) (bound armed)
  | spared | emptied | latched => exact nofun
  | programmed rate => exact absurd rfl (hbaud rate)
  | dispatched frame _ run =>
    have kept {α : Type} (field : State → α) := undispatched_field (dispatch_undispatched run) field
    have harmed : t.tmrArmed = s.tmrArmed := kept State.tmrArmed
    have hcnt : t.tmrCnt = s.tmrCnt := kept State.tmrCnt
    have hreload : t.t35Reload = s.t35Reload := kept State.t35Reload
    unfold CountWithinReload
    rw [harmed, hcnt, hreload]
    exact bound

/-- One byte received, the timer armed with the count of 9600 bit/s, and a CFG.BAUD to 115200 bit/s to come. -/
def runningTimer : State :=
  { State.reset with
    fb := [(0, 0x0B)], rxCur := 1, tmrArmed := true, tmrCnt := 4011, t35Reload := 4011, baud := 9600
    baudWritten := true, inputs := [.operation ⟨0x8, 115200⟩] }

theorem runningTimer_inv : Inv runningTimer := inv_of_check (by decide +kernel)

/-- The period drops to 1750 counts, the running count stays. -/
theorem step_runningTimer :
    step runningTimer = .next { runningTimer with
      inputs := [], baud := 115200, t35Reload := t35Period runningTimer.cfg 115200, baudWritten := true } := by
  rw [step_operation (by decide +kernel) rfl rfl, exec_cfgBaud (by decide)]

/-! ### The latch -/

/-- The only operation that sets the latch is a tick that fires with the gate true. -/
theorem OperationEffect.latches {i : Instr} {s t : State} (h : OperationEffect s i t) (idle : s.rxLen = 0)
    (latched : t.rxLen ≠ 0) :
    i = .tmrTick ∧ t.rxLen = s.rxCur ∧ t.rxCur = s.rxCur ∧ Config.minFrame ≤ t.rxLen ∧
      ∃ first, t.fb.read 0 = some first ∧ (first = 0 ∨ first = s.slaveAddr) := by
  cases h with
  | others kept => exact absurd (kept.rxLen.trans idle) latched
  | appended | dropped | counted | spared | emptied | programmed => exact absurd idle latched
  | latched first _ _ long read addressed => exact ⟨rfl, rfl, rfl, long, first, read, addressed⟩
  | dispatched frame hframe => exact absurd idle hframe.rxLen_ne_zero

/-- A latched frame is left as it is by every operation but LOOP.ITER. -/
theorem OperationEffect.latch_kept {i : Instr} {s t : State} (h : OperationEffect s i t) (inv : ReceiverInv s)
    (latched : s.rxLen ≠ 0) :
    (t.rxLen = s.rxLen ∧ t.rxCur = s.rxCur ∧ t.fb = s.fb ∧ t.tmrArmed = false) ∨
      (i = .loopIter ∧ t.rxLen = 0 ∧ t.rxCur = 0) := by
  have disarmed := inv.latched_disarmed latched
  cases h with
  | others kept => exact .inl ⟨kept.rxLen, kept.rxCur, kept.fb, kept.tmrArmed.trans disarmed⟩
  | appended _ idle | dropped _ idle => exact absurd idle latched
  | counted armed | spared armed | emptied armed | latched _ armed => exact absurd (armed.symm.trans disarmed) nofun
  | programmed rate => exact .inl ⟨rfl, rfl, rfl, disarmed⟩
  | dispatched frame _ run =>
    obtain ⟨u, hu, hlen, hcur, -⟩ := dispatch_completes frame (resolveAddr s)
    cases run.symm.trans hu
    exact .inr ⟨rfl, hlen, hcur⟩

theorem event_of_tmrTick {s : State} {w : OpWord} {rest : List Input} (event : s.inputs = .operation w :: rest)
    (dec : decodeOperation w = .ok .tmrTick) : ∃ rest, s.inputs = .operation ⟨0x6, 0⟩ :: rest :=
  ⟨rest, word_of_decodeOperation dec rfl (by decide) ▸ event⟩

theorem event_of_loopIter {s : State} {w : OpWord} {rest : List Input} (event : s.inputs = .operation w :: rest)
    (dec : decodeOperation w = .ok .loopIter) : ∃ rest, s.inputs = .operation ⟨0xA, 0⟩ :: rest :=
  ⟨rest, word_of_decodeOperation dec rfl (by decide) ▸ event⟩

/-! ### The statements -/

/-- Settles O46: each effect of an operation keeps each clause; the other events do not touch what they speak of. -/
theorem everyStepKeepsTheInvariant : Obligations.EveryStepKeepsTheInvariant := by
  intro s t inv h
  obtain ⟨hc, effect⟩ := step_effect h
  exact effect.inv hc inv

/-- Settles O47: the launch state. -/
theorem resetMeetsTheInvariant : Obligations.ResetMeetsTheInvariant := inv_launch

/-- Settles O48: the two operations that can fault need a state without the invariant. -/
theorem noReachableStepFaults : Obligations.NoReachableStepFaults := by
  intro s inv f
  rcases step_cases s with ⟨-, e⟩ | ⟨-, -, e⟩ | ⟨w, rest, i, -, -, dec, e⟩ | ⟨w, rest, r, -, -, -, e⟩ |
    ⟨ev, rest, -, -, -, e⟩
  · rw [e]; nofun
  · rw [e]; nofun
  · rw [e]
    exact exec_operation_ne_fault (decodeOperation_isRequest dec) (inv.of_inputs rest).receiver f
  · rw [e]; nofun
  · rw [e]
    exact applyEvent_ne_fault ev _ f

/-- Refutes O49: a CFG.BAUD to a higher rate under a running timer (R195; log 15). -/
theorem not_timerCountStaysWithinTheReload : ¬Obligations.TimerCountStaysWithinTheReload := by
  intro h
  have hbound : 4011 ≤ t35Period runningTimer.cfg 115200 :=
    h runningTimer _ runningTimer_inv (fun _ => le_rfl) step_runningTimer rfl
  exact absurd hbound (by decide +kernel)

/-- Settles O50: the timer is armed with the period itself, and then only counts down. -/
theorem timerCountStaysWithinTheReloadUnlessReprogrammed :
    Obligations.TimerCountStaysWithinTheReloadUnlessReprogrammed := by
  intro s t inv bound hbaud h
  obtain ⟨-, effect⟩ := step_effect h
  cases effect with
  | others kept => exact bound.of_kept kept
  | @operation w rest i event dec effect =>
    refine effect.countWithinReload (fun rate hi => ?_) bound
    subst hi
    exact hbaud rate rest (word_of_decodeOperation dec rfl (by simp) ▸ event)
  | reset _ run =>
    obtain ⟨rfl, -⟩ := systemReset_next run
    exact nofun

/-- Settles O16: of all the effects of a step only the latching fire sets the latch. -/
theorem onlyAnAddressedFrameIsLatched : Obligations.OnlyAnAddressedFrameIsLatched := by
  intro s t inv h idle latched
  obtain ⟨-, effect⟩ := step_effect h
  cases effect with
  | others kept => exact absurd (kept.rxLen.trans idle) latched
  | operation event dec effect =>
    obtain ⟨rfl, hlatch⟩ := effect.latches idle latched
    exact ⟨event_of_tmrTick event dec, hlatch⟩
  | reset _ run =>
    obtain ⟨rfl, -⟩ := systemReset_next run
    exact absurd rfl latched

/-- Settles O17: of all the effects of a step only a dispatch and a reset touch a latched frame. -/
theorem latchedFrameStaysUntilReleased : Obligations.LatchedFrameStaysUntilReleased := by
  intro s t inv h latched
  obtain ⟨-, effect⟩ := step_effect h
  cases effect with
  | others kept =>
    exact .inl ⟨kept.rxLen, kept.rxCur, kept.fb, kept.tmrArmed.trans (inv.receiver.latched_disarmed latched)⟩
  | operation event dec effect =>
    rcases effect.latch_kept (inv.of_inputs _).receiver latched with hkept | ⟨rfl, hlen, hcur⟩
    · exact .inl hkept
    · exact .inr ⟨hlen, hcur, .inl (event_of_loopIter event dec)⟩
  | reset event run =>
    obtain ⟨rfl, -⟩ := systemReset_next run
    exact .inr ⟨rfl, rfl, .inr ⟨_, _, event⟩⟩

/-- Settles O44: only a dispatch appends to `TX`, and only a reset empties it. -/
theorem onlyTheMainLoopTransmits : Obligations.OnlyTheMainLoopTransmits := by
  intro s t h hne
  obtain ⟨-, effect⟩ := step_effect h
  cases effect with
  | others kept => exact absurd kept.tx hne
  | operation event dec effect =>
    rcases effect.tx with heq | ⟨rfl, hsent⟩
    · exact absurd heq hne
    · exact .inl ⟨event_of_loopIter event dec, hsent⟩
  | reset event run =>
    obtain ⟨rfl, -⟩ := systemReset_next run
    exact .inr ⟨⟨_, _, event⟩, rfl⟩

/-- Settles O45: no effect of a step names the configuration or resizes a bank. -/
theorem configurationIsFixedForARun : Obligations.ConfigurationIsFixedForARun := by
  intro s t h
  obtain ⟨hc, effect⟩ := step_effect h
  have hsame := effect.sameConfiguration
  have hok := hsame.configOk.trans hc
  obtain ⟨hcfg, hd, hi, hh⟩ := hsame
  exact ⟨hcfg, hd, hi, hh, hok⟩

end Sys2Proof.Machine
end

section
/-! PROOFS. What no operation does to the banks (20_memory.md R82, R93): an unpersisted write to `HOLD`, a write to
`DISC` or `INP`. -/

namespace Sys2Proof.Machine

/-- Every holding cell with a new value has a call of its own offset and value, answered `ok`, among the calls made. -/
def PersistedChanges (s t : State) : Prop :=
  ∃ calls, t.nvTrace = s.nvTrace ++ calls ∧
    ∀ a v, t.hold[a]? = some v → s.hold[a]? ≠ some v → ⟨holdOffset s.cfg a, be16Bytes v, .ok⟩ ∈ calls

theorem persistedChanges_of_kept {s t : State} (hhold : t.hold = s.hold) (htrace : t.nvTrace = s.nvTrace) :
    PersistedChanges s t :=
  ⟨[], by rw [htrace, List.append_nil], fun a v hv hne => absurd (hhold ▸ hv) hne⟩

/-- A changed cell of a run is one of the cells written, so its call is among the run's. -/
theorem HoldsFirst.call_mem {s t : State} {a m i : Nat} {vals : List U16} {v : U16} (h : HoldsFirst s t a vals m)
    (hv : t.hold[i]? = some v) (hne : s.hold[i]? ≠ some v) :
    ⟨holdOffset s.cfg i, be16Bytes v, .ok⟩ ∈ persistCalls s a vals m := by
  rw [h i] at hv
  split at hv
  case isTrue hi =>
    have hidx : a + (i - a) = i := by omega
    refine List.mem_map.mpr ⟨i - a, List.mem_filter.mpr ⟨List.mem_range.mpr (by omega), ?_⟩, ?_⟩
    · rw [hidx, hv]
      exact bne_iff_ne.mpr hne
    · rw [hidx, List.getD_eq_getElem?_getD, hv]
      rfl
  case isFalse => exact absurd hv hne

theorem setHoldings_persistedChanges {a : Nat} {vals : List U16} {s t : State} {ans : PortAnswer}
    (h : setHoldings a vals s = some (ans, t)) : PersistedChanges s t := by
  cases ans with
  | ok =>
    obtain ⟨hcells, htrace⟩ := setHoldings_ok h
    exact ⟨_, htrace, fun i v => hcells.call_mem⟩
  | fail =>
    obtain ⟨m, w, -, -, -, hcells, htrace⟩ := setHoldings_fail h
    exact ⟨_, htrace.trans (List.append_assoc _ _ _),
      fun i v hv hne => List.mem_append_left _ (hcells.call_mem hv hne)⟩

theorem WritesAddressed.persistedChanges {i : Instr} {s t : State} (h : WritesAddressed i s (.next t)) :
    PersistedChanges s t := by
  obtain ⟨body, vals, ans, s', heq, -, hrun⟩ := h
  cases heq
  have hchanges := setHoldings_persistedChanges hrun
  unfold PersistedChanges at hchanges ⊢
  rwa [complete_nvTrace, complete_hold]

theorem exec_request_persistedChanges {i : Instr} (hreq : i.isRequest = true) {s t : State}
    (h : exec i s = .next t) : PersistedChanges s t := by
  by_cases hovl : ∃ addr start qty data, i = .wmrOvl addr start qty data
  · obtain ⟨addr, start, qty, data, rfl⟩ := hovl
    obtain ⟨hhold, htrace, -⟩ := exec_wmrOvl_holding_kept h
    exact persistedChanges_of_kept hhold htrace
  · exact (h ▸ exec_request_writes hreq (fun addr start qty data hi => hovl ⟨addr, start, qty, data, hi⟩) s
      : WritesAddressed i s (.next t)).persistedChanges

/-- Neither the kick nor the resolution touches the bank. -/
theorem dispatch_persistedChanges {frame : List Byte} {s t : State} (h : dispatch frame (resolveAddr s) = .next t) :
    PersistedChanges s t := by
  rcases dispatch_cases frame (resolveAddr s) with ⟨-, e⟩ | ⟨_, -, -, e⟩ | ⟨i, -, -, hreq, e⟩
  · rw [e] at h; cases h; exact persistedChanges_of_kept rfl rfl
  · rw [e] at h; cases h; exact persistedChanges_of_kept rfl rfl
  · exact exec_request_persistedChanges (s := kickWatchdog (resolveAddr s)) hreq (e ▸ h)

theorem OperationEffect.persistedChanges {i : Instr} {s t : State} (h : OperationEffect s i t) :
    PersistedChanges s t := by
  cases h with
  | others _ banks =>
    obtain ⟨hhold, htrace, -⟩ := banks
    exact persistedChanges_of_kept hhold htrace
  | dispatched frame _ run => exact dispatch_persistedChanges run
  | appended | dropped | counted | spared | emptied | latched | programmed => exact persistedChanges_of_kept rfl rfl

theorem OperationEffect.readOnly_kept {i : Instr} {s t : State} (h : OperationEffect s i t) :
    t.disc = s.disc ∧ t.inp = s.inp := by
  cases h with
  | others _ banks =>
    obtain ⟨-, -, hdisc, hinp⟩ := banks
    exact ⟨hdisc, hinp⟩
  | dispatched frame _ run =>
    have kept {α : Type} (field : State → α) := undispatched_field (dispatch_undispatched run) field
    exact ⟨kept State.disc, kept State.inp⟩
  | appended | dropped | counted | spared | emptied | latched | programmed => exact ⟨rfl, rfl⟩

/-! ### The statements -/

/-- Settles O42: a request's changes are those of its run of writes, and no other operation changes the bank. -/
theorem holdingChangesOnlyWithPersistence : Obligations.HoldingChangesOnlyWithPersistence := by
  intro s t i h
  cases hreq : i.isRequest with
  | true => exact exec_request_persistedChanges hreq h
  | false => exact (exec_operation_effect hreq h).persistedChanges

/-- Settles O43: the two banks are among what every request and every operation keeps. -/
theorem noOperationWritesTheReadOnlyBanks : Obligations.NoOperationWritesTheReadOnlyBanks := by
  intro s t i h
  cases hreq : i.isRequest with
  | true =>
    obtain ⟨hkept, -⟩ := exec_request_undispatched hreq h
    exact ⟨undispatched_field hkept State.disc, undispatched_field hkept State.inp⟩
  | false => exact (exec_operation_effect hreq h).readOnly_kept

end Sys2Proof.Machine
end
